-- ==== Sys2Proof/Word.lean ====
section
/-! DEFINITION. The word types of the pulse decoding engine (00_scope.md R8, R9: all quantities are unsigned). -/

namespace Sys2Proof

/-- A byte of `BUF`, of a header or of a checksum input (00_scope.md R8). -/
abbrev Byte := BitVec 8

/-- A 16-bit quantity: a period length, a checksum, a length (00_scope.md R7 `PW`, R11). -/
abbrev Half := BitVec 16

/-- A 32-bit control or status register as the bus carries it (10_state.md R50). -/
abbrev Word := BitVec 32

end Sys2Proof
end

