-- ==== Sys2Proof/Syntax.lean ====
section
/-! DEFINITION. The operations of the engine, one constructor for each row of opcode_table.json (30_encoding.md R90 to R94),
and the words they are presented as at the pins. -/

namespace Sys2Proof

/-- An operation: a token (format T), a command (format C) or a bus access (format B). Bits that the format ignores are no
part of the operation (30_encoding.md R91, R92, R94). -/
inductive Instr where
  /-- PERIOD: a measured pulse length in samples (30_encoding.md R91). -/
  | period (len : Half)
  /-- EOS: end of stream (30_encoding.md R91). -/
  | eos
  /-- INDEX: index pulse (30_encoding.md R91). -/
  | index
  /-- RSV: the reserved token kind 3 (30_encoding.md R91, R97). -/
  | rsv
  /-- NOP command (30_encoding.md R93). -/
  | nop
  /-- START command (30_encoding.md R93). -/
  | start
  /-- ABORT command (30_encoding.md R93). -/
  | abort
  /-- NEXT command (30_encoding.md R93). -/
  | next
  /-- TRKCLR command (30_encoding.md R93). -/
  | trkclr
  /-- CKINIT command; `alg` is `arg[0]`: false the sum, true the CRC (30_encoding.md R93). -/
  | ckinit (alg : Bool)
  /-- CKBYTE command; `b` is `arg[7:0]` (30_encoding.md R93). -/
  | ckbyte (b : Byte)
  /-- CSRRD: bus read at a byte offset (30_encoding.md R94). -/
  | csrrd (addr : Byte)
  /-- CSRWR: bus write of `b_wdata` at a byte offset (30_encoding.md R94). -/
  | csrwr (addr : Byte) (data : Word)
  deriving DecidableEq, Repr

/-- What stands at the pins for one operation: a token word `{s_kind, s_len}` (30_encoding.md R91), or a bus word
`{b_we, b_re, b_addr}` with `b_wdata` on its own pins (30_encoding.md R94). A command (format C) is a bus word that writes
offset 0x04 (R94). -/
inductive OpWord where
  | token (w : BitVec 18)
  | bus (w : BitVec 10) (wdata : Word)
  deriving DecidableEq, Repr

/-- Why a word is no operation. -/
inductive DecodeReject where
  /-- Neither `b_we` nor `b_re` is 1: no bus access is performed (10_state.md R21). Safe: there is no operation. -/
  | noStrobe
  /-- The command word's `op` is none of 30_encoding.md R93. Safe: the write itself is still a CSRWR, whose meaning is the
  refusal of 46_commands.md R258. -/
  | reservedOp (op : Byte)
  deriving DecidableEq, Repr

end Sys2Proof
end

