-- ==== Sys2Proof/WellFormed.lean ====
section
/-! DEFINITION. Which operations have an encoding of their own. The widths are in the types; the one check left is that a bus
write which the spec calls a command (30_encoding.md R94: "A write to offset 0x04 is format C") is written as that command. -/

namespace Sys2Proof

/-- The command opcodes of 30_encoding.md R93. -/
def Instr.commandOps : List Byte := [0x00, 0x01, 0x02, 0x03, 0x04, 0x10, 0x11]

/-- The bus offset selects `CMD`; the low two address bits are ignored (10_state.md R50). -/
def Instr.isCmdOffset (addr : Byte) : Bool := addr.extractLsb' 2 6 == 1#6

/-- A write of a listed command word to `CMD` is that command and not a `csrwr`. -/
def Instr.wellFormed (i : Instr) : Bool :=
  match i with
  | .csrwr addr data => !(isCmdOffset addr && commandOps.contains (data.extractLsb' 0 8))
  | .period _ => true
  | .eos => true
  | .index => true
  | .rsv => true
  | .nop => true
  | .start => true
  | .abort => true
  | .next => true
  | .trkclr => true
  | .ckinit _ => true
  | .ckbyte _ => true
  | .csrrd _ => true

end Sys2Proof
end

