-- ==== Sys2Proof/Decode.lean ====
section
/-! DEFINITION. Decoding of the pin words (30_encoding.md R91 to R94), total and rejecting by name, and the encoder written
from the same tables. -/

namespace Sys2Proof

/-- 30_encoding.md R91: `{kind, len}`; kind 0 PERIOD, 1 EOS, 2 INDEX, 3 reserved. -/
def decodeToken (w : BitVec 18) : Instr :=
  match (w.extractLsb' 16 2).toNat with
  | 0 => .period (w.extractLsb' 0 16)
  | 1 => .eos
  | 2 => .index
  | _ => .rsv

/-- 30_encoding.md R92, R93: `op` in bits 7:0, `arg` in bits 15:8, bits 31:16 ignored; every other `op` is reserved. -/
def decodeCommand (w : Word) : Except DecodeReject Instr :=
  match (w.extractLsb' 0 8).toNat with
  | 0x00 => .ok .nop
  | 0x01 => .ok .start
  | 0x02 => .ok .abort
  | 0x03 => .ok .next
  | 0x04 => .ok .trkclr
  | 0x10 => .ok (.ckinit (w.getLsbD 8))
  | 0x11 => .ok (.ckbyte (w.extractLsb' 8 8))
  | _ => .error (.reservedOp (w.extractLsb' 0 8))

/-- 30_encoding.md R94 and 10_state.md R21: `b_we` in bit 9, `b_re` in bit 8, `b_addr` in bits 7:0; both strobes together are
a write; a write to offset 0x04 is a command (a reserved `op` leaves the plain write, which its meaning refuses). -/
def decodeBus (w : BitVec 10) (wdata : Word) : Except DecodeReject Instr :=
  let addr : Byte := w.extractLsb' 0 8
  if w.getLsbD 9 then
    if Instr.isCmdOffset addr then
      match decodeCommand wdata with
      | .ok i => .ok i
      | .error _ => .ok (.csrwr addr wdata)
    else .ok (.csrwr addr wdata)
  else if w.getLsbD 8 then .ok (.csrrd addr)
  else .error .noStrobe

/-- The operation that a word at the pins stands for. -/
def decode : OpWord → Except DecodeReject Instr
  | .token w => .ok (decodeToken w)
  | .bus w wdata => decodeBus w wdata

/-- The bus word that writes `CMD` (offset 0x04), carrying a command word (30_encoding.md R92). -/
def commandWord (op : Byte) (arg : Byte) : OpWord :=
  .bus (1#1 ++ 0#1 ++ 0x04#8) (0#16 ++ arg ++ op)

/-- The word of an operation, every ignored bit 0 (30_encoding.md R91 to R94). -/
def encode : Instr → OpWord
  | .period len => .token (0#2 ++ len)
  | .eos => .token (1#2 ++ 0#16)
  | .index => .token (2#2 ++ 0#16)
  | .rsv => .token (3#2 ++ 0#16)
  | .nop => commandWord 0x00 0
  | .start => commandWord 0x01 0
  | .abort => commandWord 0x02 0
  | .next => commandWord 0x03 0
  | .trkclr => commandWord 0x04 0
  | .ckinit alg => commandWord 0x10 (0#7 ++ BitVec.ofBool alg)
  | .ckbyte b => commandWord 0x11 b
  | .csrrd addr => .bus (0#1 ++ 1#1 ++ addr) 0
  | .csrwr addr data => .bus (1#1 ++ 0#1 ++ addr) data

/-- The pin word of an opcode-table row given as a number with `nbits` bits (the row's width, in whole bytes or exact): 18
bits a token word, 32 bits a command word written to `CMD`, 10 bits a bus word with `b_wdata` 0, 48 bits a bus word in the low
16 bits and `b_wdata` above it. -/
def tableWord (nbits w : Nat) : Option OpWord :=
  match nbits with
  | 18 => some (.token (BitVec.ofNat 18 w))
  | 24 => some (.token (BitVec.ofNat 18 w))
  | 32 => some (.bus 0x204#10 (BitVec.ofNat 32 w))
  | 10 => some (.bus (BitVec.ofNat 10 w) 0)
  | 16 => some (.bus (BitVec.ofNat 10 w) 0)
  | 48 => some (.bus (BitVec.ofNat 10 w) (BitVec.ofNat 32 (w >>> 16)))
  | _ => none

/-- The operation the decoder reads from an opcode-table word. -/
def decodeTableWord (nbits w : Nat) : Option Instr :=
  match tableWord nbits w with
  | some ow =>
    match decode ow with
    | .ok i => some i
    | .error _ => none
  | none => none

end Sys2Proof
end

