-- ==== Sys2Proof/Config.lean ====
section
/-! DEFINITION. The constants of the implementation-parameter table (00_scope.md R7) and the free values: what the spec
leaves at "any value" (93_implementation_defined.md U13, U15). A free value has no body, so nothing can be proved of it. -/

namespace Sys2Proof

/-- What a byte of `BUF` that no operation has written since reset reads as: "an arbitrary but fixed function from addresses
to bytes chosen at reset" (70_reset_and_hazards.md R317; U13). The first argument is the reset epoch, the second the address. -/
opaque Config.bufInit : Nat → Nat → Byte

/-- What the pin `b_rdata` carries in a cycle that does not follow a read and in a cycle with `rst` 1
(70_reset_and_hazards.md R315, R316; U15), one value for each clock cycle. -/
opaque Config.rdataFree : Nat → Word

/-- `MARK_N`: zero periods in a tape marker (00_scope.md R7). -/
def Config.markN : Nat := 8

/-- `HDR_LEN`: tape header bytes (00_scope.md R7). -/
def Config.hdrLen : Nat := 20

/-- `BUFSZ`: bytes of the record buffer (00_scope.md R7; 20_memory.md R70). -/
def Config.bufSize : Nat := 65536

/-- `NSECT`: width of the valid-sector bitmap (00_scope.md R7). -/
def Config.nSect : Nat := 32

/-- `H7_MAXBLK`: most HELP7 blocks of a file (00_scope.md R7). -/
def Config.h7MaxBlk : Nat := 256

end Sys2Proof
end

