-- ==== Sys2Proof/Machine/State.lean ====
section
/-! DEFINITION. The architectural state of the engine (10_state.md), as plain data, its value after reset
(70_reset_and_hazards.md R316), and the reasons a step can stop. -/

namespace Sys2Proof.Machine

/-- The control state `ST` (10_state.md R32). The numeric codes are `Ctl.code`. -/
inductive Ctl where
  | idle | tFindPilot | tPilotFound | tPilotFound2 | tHdrMarker | tReadHdr | tBodyMarker | tReadData | tChecksum
  | tEndTrailer | done | h7Seek | h7ReadBhdr | h7ReadBody | h7Bcksum
  | dFindHdr | dReadHdr | dFindData | dReadData | dDeliver | error
  deriving DecidableEq, Repr

/-- The marker sub-state `MS` (10_state.md R33). -/
inductive Phase where
  | lead | body | final | sync1 | sync0
  deriving DecidableEq, Repr

/-- The twelve event flags of `EVT` (10_state.md R36), in bit order. -/
inductive Flag where
  | done | err | sector | record | cal | hdrbad | databad | h7blk | h7fail | h7dup | refused | index
  deriving DecidableEq, Repr

/-- The terminal errors (60_exceptions.md R282), in code order from 1. -/
inductive Fatal where
  | pilot | nomark | bitlong | synclong | mlead | mbody | mfinal | msync | eos | cfg | token | zero | h7geom
  deriving DecidableEq, Repr

/-- The non-fatal events (60_exceptions.md R288), in code order from 1. -/
inductive NonFatal where
  | hdrMagic | hdrCrc | hdrSize | hdrPeriod | dataTimeout | dataMagic | dataPeriod | dataCrc
  | h7Period | h7Hdr | h7Cksum | h7Dup | dataEos
  deriving DecidableEq, Repr

/-- The threshold set and its validity flag (10_state.md R24, R35). -/
structure Thresholds where
  unit : BitVec 24
  cutoff : BitVec 32
  maxlen : BitVec 32
  calok : Bool
  deriving DecidableEq, Repr

/-- The calibrator accumulators (10_state.md R25). -/
structure PilotRun where
  sum : BitVec 32
  cnt : BitVec 16
  deriving DecidableEq, Repr

/-- The tape byte shifter and bit-cell phase (10_state.md R26): `bph` false = data period next, true = sync period next. -/
structure TapeBits where
  shr : Byte
  bitcnt : BitVec 4
  bph : Bool
  deriving DecidableEq, Repr

/-- The marker sub-state and counters (10_state.md R33, R28). -/
structure MarkerRegs where
  ms : Phase
  mcnt : BitVec 8
  zrun : BitVec 8
  deriving DecidableEq, Repr

/-- The disk marker window (10_state.md R30): `w[0]` is the oldest entry. -/
structure Window where
  w : Vector Half 15
  wcnt : BitVec 4
  wsum : BitVec 20
  deriving DecidableEq, Repr

/-- The disk raw-bit shifter (10_state.md R31). -/
structure RawBits where
  raw : BitVec 16
  rawcnt : BitVec 5
  deriving DecidableEq, Repr

/-- The tape file record (10_state.md R40, R29) and its flags (R35). -/
structure FileRecord where
  startAddr : Half
  length : Half
  name : Vector Byte 16
  rck : Half
  cck : Half
  isFinal : Bool
  valid : Bool
  notrailer : Bool
  deriving DecidableEq, Repr

/-- The sector registers (10_state.md R42). -/
structure Sector where
  track : Byte
  side : Byte
  number : Byte
  sizeCode : Byte
  size : BitVec 11
  hcrcRd : Half
  hcrcCk : Half
  hdrCrcOk : Bool
  slen : BitVec 11
  dcrcRd : Half
  dcrcCk : Half
  dataCrcOk : Bool
  sizeOk : Bool
  svalid : Bool
  deriving DecidableEq, Repr

/-- The HELP7 block registers and file bookkeeping (10_state.md R44, R45) and `H7ACT` (R35). -/
structure Help7 where
  h7act : Bool
  bnum : Half
  blen : Half
  bown : Half
  bck : Half
  nb : BitVec 9
  seen : BitVec 256
  remain : Half
  owner : Half
  ownset : Bool
  deriving DecidableEq, Repr

/-- The error and event registers (10_state.md R60). -/
structure ErrorRegs where
  errcode : BitVec 8
  errst : Ctl
  errms : Phase
  errpos : Word
  nfcode : BitVec 8
  nfpos : Word
  deriving DecidableEq, Repr

/-- The session state: exactly what `clear_session` sets to 0 (46_commands.md R261; 10_state.md R46). -/
structure Session where
  thr : Thresholds
  pilot : PilotRun
  bits : TapeBits
  mark : MarkerRegs
  win : Window
  look : Half
  rawb : RawBits
  pos : Word
  byteidx : Half
  hb : Vector Byte 20
  rcd : FileRecord
  sec : Sector
  h7 : Help7
  eosp : Bool
  err : ErrorRegs
  deriving DecidableEq, Repr

/-- The configuration registers `CFG`, `COEF`, `LIMIT`, `H7CFG`, `EXPECT` by field (10_state.md R53 to R57). The reserved bits
are not stored: they are written-ignored and read 0 (R67 (d)). -/
structure ConfigRegs where
  profile : BitVec 2
  keepBad : Bool
  h7en : Bool
  coeff : BitVec 8
  maxk : BitVec 8
  longk : BitVec 8
  drift : BitVec 8
  pilotMin : BitVec 16
  lookmax : BitVec 16
  h7idx : BitVec 4
  h7val : Byte
  h7blk : Half
  expect : BitVec 32
  deriving DecidableEq, Repr

/-- The input pins in one clock cycle (10_state.md R21). `sValid`: the period source presents the first token of its queue. -/
structure PinCycle where
  rst : Bool
  sValid : Bool
  bWe : Bool
  bRe : Bool
  bAddr : Byte
  bWdata : Word
  deriving DecidableEq, Repr

/-- `BUF` (20_memory.md R70): the bytes written since reset, with their addresses strictly rising. An unlisted address has no
written byte. -/
abbrev Memory := List Host.Cell

/-- The whole state. -/
structure State where
  /-- `ST` (10_state.md R32). -/
  st : Ctl
  /-- Session state (46_commands.md R261). -/
  ses : Session
  /-- Configuration registers (10_state.md R53 to R57). -/
  cfg : ConfigRegs
  /-- `IEN` (10_state.md R58). -/
  ien : BitVec 12
  /-- `EVT` (10_state.md R36). -/
  evt : BitVec 12
  /-- `SECT_OK` (10_state.md R43). -/
  sectOk : BitVec 32
  /-- `NBAD` (10_state.md R43). -/
  nbad : BitVec 8
  /-- `REV` (10_state.md R43). -/
  rev : BitVec 8
  /-- `CK` (10_state.md R29). -/
  ck : Half
  /-- `CKALG` (10_state.md R29): false the sum, true the CRC. -/
  ckalg : Bool
  /-- `BUFADDR` (10_state.md R66). -/
  bufaddr : BitVec 16
  /-- `BUF` (20_memory.md R70). -/
  buf : Memory
  /-- The data of the last bus read (10_state.md R21 `b_rdata`). -/
  rdata : Word
  /-- The last cycle was a bus read, so that `b_rdata` carries `rdata` (93_implementation_defined.md U15). -/
  rdValid : Bool
  /-- The model's own: the pin values of the clock cycles to come; when empty, the pins are quiet. -/
  pins : List PinCycle
  /-- The model's own: the tokens pending at the period source (20_memory.md R85). -/
  source : List (BitVec 18)
  /-- The model's own: clock cycles executed, the index of `Config.rdataFree`. -/
  tick : Nat
  /-- The model's own: the reset epoch, the index of `Config.bufInit`. -/
  epoch : Nat
  deriving DecidableEq, Repr

/-- Why a step stops. Every reason is of a state that no run from reset reaches: the spec gives no effect there. -/
inductive Fault where
  /-- Raised by PERIOD in `H7_READ_BODY` when `(BNUM - 1) * H7BLK + BYTEIDX` is not below 65536 (00_scope.md R11 says that it
  fits 16 bits). Safe: the machine stops where the spec has no such address. -/
  | bufRange
  /-- Raised by PERIOD in a byte-reading tape state when an index lies outside `HB[0..19]` or `SEEN[0..255]` (10_state.md R27,
  R45). Safe: the machine stops where the spec has no such element. -/
  | arrayIndex
  /-- Raised by PERIOD in `T_END_TRAILER` or `H7_SEEK` when `MS` is `M_BODY` or `M_FINAL`, which these modes do not use
  (41_marker.md R144, R145). Safe: the machine stops where the spec gives no rule. -/
  | markerPhase
  deriving DecidableEq, Repr

/-- Why an instruction is refused. -/
inductive Refusal where
  /-- The instruction has no meaning in this model yet: raised only by `exec`'s arms. Safe: the machine stops. -/
  | notModelled (mnemonic : String)
  deriving DecidableEq, Repr

/-- What a step or a meaning answers. -/
abbrev Res := Host.Outcome State Fault Refusal

/-- Every element of session state at 0 (46_commands.md R261). -/
def Session.zero : Session where
  thr := { unit := 0, cutoff := 0, maxlen := 0, calok := false }
  pilot := { sum := 0, cnt := 0 }
  bits := { shr := 0, bitcnt := 0, bph := false }
  mark := { ms := .lead, mcnt := 0, zrun := 0 }
  win := { w := Vector.replicate 15 0, wcnt := 0, wsum := 0 }
  look := 0
  rawb := { raw := 0, rawcnt := 0 }
  pos := 0
  byteidx := 0
  hb := Vector.replicate 20 0
  rcd := { startAddr := 0, length := 0, name := Vector.replicate 16 0, rck := 0, cck := 0,
           isFinal := false, valid := false, notrailer := false }
  sec := { track := 0, side := 0, number := 0, sizeCode := 0, size := 0, hcrcRd := 0, hcrcCk := 0, hdrCrcOk := false,
           slen := 0, dcrcRd := 0, dcrcCk := 0, dataCrcOk := false, sizeOk := false, svalid := false }
  h7 := { h7act := false, bnum := 0, blen := 0, bown := 0, bck := 0, nb := 0, seen := 0, remain := 0, owner := 0,
          ownset := false }
  eosp := false
  err := { errcode := 0, errst := .idle, errms := .lead, errpos := 0, nfcode := 0, nfpos := 0 }

/-- The configuration registers after reset: `CFG` 0, `COEF` 0x04303018, `LIMIT` 0x019000C8, `H7CFG` 0, `EXPECT` 0
(70_reset_and_hazards.md R316; 10_state.md R53 to R57). -/
def ConfigRegs.reset : ConfigRegs where
  profile := 0
  keepBad := false
  h7en := false
  coeff := 24
  maxk := 48
  longk := 48
  drift := 4
  pilotMin := 200
  lookmax := 400
  h7idx := 0
  h7val := 0
  h7blk := 0
  expect := 0

/-- The machine right after reset (70_reset_and_hazards.md R316): `ST` IDLE, session state 0, `BUF` with no written byte. The
fields `rdata`, `rdValid`, `pins`, `source`, `tick`, `epoch` are the model's (notes/assumptions 1, 6, 7). -/
def State.reset : State where
  st := .idle
  ses := Session.zero
  cfg := ConfigRegs.reset
  ien := 0
  evt := 0
  sectOk := 0
  nbad := 0
  rev := 0
  ck := 0
  ckalg := false
  bufaddr := 0
  buf := []
  rdata := 0
  rdValid := false
  pins := []
  source := []
  tick := 0
  epoch := 0

end Sys2Proof.Machine
end

