-- ==== Sys2Proof/Machine/Operands.lean ====
section
/-! DEFINITION. The operand forms: the numeric codes of the named values, the period classifiers, the interval classes, and the
fields assembled from bytes (10_state.md, 20_memory.md R73, 41_marker.md R148, R149, 42_demod.md R156, R164). -/

namespace Sys2Proof.Machine

/-- The 6-bit encoding of `ST` (10_state.md R32). -/
def Ctl.code : Ctl → BitVec 6
  | .idle => 0
  | .tFindPilot => 1
  | .tPilotFound => 2
  | .tPilotFound2 => 3
  | .tHdrMarker => 4
  | .tReadHdr => 5
  | .tBodyMarker => 6
  | .tReadData => 7
  | .tChecksum => 8
  | .tEndTrailer => 9
  | .done => 10
  | .h7Seek => 11
  | .h7ReadBhdr => 12
  | .h7ReadBody => 13
  | .h7Bcksum => 14
  | .dFindHdr => 16
  | .dReadHdr => 17
  | .dFindData => 18
  | .dReadData => 19
  | .dDeliver => 20
  | .error => 31

/-- The 3-bit encoding of `MS` (10_state.md R33). -/
def Phase.code : Phase → BitVec 3
  | .lead => 0
  | .body => 1
  | .final => 2
  | .sync1 => 3
  | .sync0 => 4

/-- The bit of a flag in `EVT` and `IEN` (10_state.md R36). -/
def Flag.bit : Flag → Nat
  | .done => 0
  | .err => 1
  | .sector => 2
  | .record => 3
  | .cal => 4
  | .hdrbad => 5
  | .databad => 6
  | .h7blk => 7
  | .h7fail => 8
  | .h7dup => 9
  | .refused => 10
  | .index => 11

/-- A flag as a word with that one bit set. -/
def Flag.mask (f : Flag) : BitVec 12 := BitVec.twoPow 12 f.bit

/-- `ERRCODE` of a terminal error (60_exceptions.md R282). -/
def Fatal.code : Fatal → BitVec 8
  | .pilot => 1
  | .nomark => 2
  | .bitlong => 3
  | .synclong => 4
  | .mlead => 5
  | .mbody => 6
  | .mfinal => 7
  | .msync => 8
  | .eos => 9
  | .cfg => 10
  | .token => 11
  | .zero => 12
  | .h7geom => 13

/-- `NFCODE` of a non-fatal event (60_exceptions.md R288). -/
def NonFatal.code : NonFatal → BitVec 8
  | .hdrMagic => 1
  | .hdrCrc => 2
  | .hdrSize => 3
  | .hdrPeriod => 4
  | .dataTimeout => 5
  | .dataMagic => 6
  | .dataPeriod => 7
  | .dataCrc => 8
  | .h7Period => 9
  | .h7Hdr => 10
  | .h7Cksum => 11
  | .h7Dup => 12
  | .dataEos => 13

/-- An increment that stops at the largest value of the width (00_scope.md R11: `MCNT`, `ZRUN`, `NBAD`, `REV`, `LOOK`). -/
def satInc {w : Nat} (v : BitVec w) : BitVec w := if v = BitVec.allOnes w then v else v + 1

/-- A word of two bytes, `{hi, lo}` (20_memory.md R73). -/
def word16 (hi lo : Byte) : Half := hi ++ lo

/-- `abs(a - b)` on naturals (00_scope.md R10). -/
def absDiff (a b : Nat) : Nat := if b ≤ a then a - b else b - a

/-- `is_one(p)`: `(p << 8) > CUTOFF` (42_demod.md R156). -/
def isOne (t : Thresholds) (p : Half) : Bool := decide (t.cutoff.toNat < p.toNat <<< 8)

/-- `sync_ok(p)`: `(p << 8) < CUTOFF` (42_demod.md R156). -/
def syncOk (t : Thresholds) (p : Half) : Bool := decide (p.toNat <<< 8 < t.cutoff.toNat)

/-- `too_long(p)`: `(p << 8) > MAXLEN` (42_demod.md R156). -/
def tooLong (t : Thresholds) (p : Half) : Bool := decide (t.maxlen.toNat < p.toNat <<< 8)

/-- The pilot's terminal test, `p * CNT * 16 > LONGK * SUM` (40_calibrator.md R124). -/
def isTerminal (c : ConfigRegs) (r : PilotRun) (p : Half) : Bool :=
  decide (c.longk.toNat * r.sum.toNat < p.toNat * r.cnt.toNat * 16)

/-- The pilot's tolerance test, `abs(p * CNT - SUM) * 16 <= DRIFT * SUM` (40_calibrator.md R123). -/
def inTolerance (c : ConfigRegs) (r : PilotRun) (p : Half) : Bool :=
  decide (absDiff (p.toNat * r.cnt.toNat) r.sum.toNat * 16 ≤ c.drift.toNat * r.sum.toNat)

/-- The legal classes of a flux interval: about 1, 1.5 and 2 units (30_encoding.md R107). -/
inductive Interval where
  | short | medium | long
  deriving DecidableEq, Repr

/-- Half-cells of an interval class (30_encoding.md R107). -/
def Interval.halfCells : Interval → Nat
  | .short => 2
  | .medium => 3
  | .long => 4

/-- The buckets shared by 41_marker.md R148 (`x = 96 * w` against the window sum) and 42_demod.md R164 (`x = p << 10` against
`UNIT`): below 3, above 9 invalid; then below 5, below 7, otherwise. -/
def classify (x s : Nat) : Option Interval :=
  if x < 3 * s then none
  else if 9 * s < x then none
  else if x < 5 * s then some .short
  else if x < 7 * s then some .medium
  else some .long

/-- `bucket(w, S)` (41_marker.md R148). -/
def bucket (w s : Nat) : Option Interval := classify (96 * w) s

/-- The 5-period sub-pattern `L M L M S` (41_marker.md R149). -/
def subPattern : List Interval := [.long, .medium, .long, .medium, .short]

/-- `PAT`: three sub-patterns, the first compared with the oldest entry (41_marker.md R149). -/
def pattern : List Interval := subPattern ++ subPattern ++ subPattern

/-- `match` of 41_marker.md R147: the window is full and every entry is in the pattern's bucket. -/
def windowMatches (v : Window) : Bool :=
  v.wcnt == 15 && v.w.toList.map (fun w => bucket w.toNat v.wsum.toNat) == pattern.map some

/-- The window after a period: oldest out, newest in at `W[14]` (41_marker.md R147). -/
def Window.shift (v : Window) (p : Half) : Window where
  w := Vector.ofFn fun i : Fin 15 => if h : i.val < 14 then v.w[i.val + 1] else p
  wcnt := if v.wcnt = 15 then 15 else v.wcnt + 1
  wsum := v.wsum - (v.w[0]).zeroExtend 20 + p.zeroExtend 20

/-- An empty window (41_marker.md R153). -/
def Window.empty : Window := { w := Vector.replicate 15 0, wcnt := 0, wsum := 0 }

/-- The data byte of sixteen raw bits: `b[i] = RAW[2i]` (42_demod.md R167). -/
def dataByte (raw : BitVec 16) : Byte :=
  BitVec.ofBool (raw.getLsbD 14) ++ BitVec.ofBool (raw.getLsbD 12) ++ BitVec.ofBool (raw.getLsbD 10)
    ++ BitVec.ofBool (raw.getLsbD 8) ++ BitVec.ofBool (raw.getLsbD 6) ++ BitVec.ofBool (raw.getLsbD 4)
    ++ BitVec.ofBool (raw.getLsbD 2) ++ BitVec.ofBool (raw.getLsbD 0)

/-- The raw bits of an interval: `n - 1` zeros and a one (42_demod.md R165). -/
def rawBitsOf (c : Interval) : List Bool := List.replicate (c.halfCells - 1) false ++ [true]

/-- The payload size of a size code, 0 for an illegal code (30_encoding.md R111; 45_framing_disk.md R235). -/
def sizeOfCode (code : Byte) : BitVec 11 :=
  if code = 1 then 256 else if code = 2 then 512 else if code = 3 then 1024 else 0

/-- `explen(k)`: the length of HELP7 block `k` (44_framing_tape.md R208). -/
def explen (nb length blk k : Nat) : Nat := if k < nb then blk else length - (nb - 1) * blk

/-- The number of HELP7 blocks, `ceil(LENGTH / H7BLK)` (44_framing_tape.md R207). -/
def blockCount (length blk : Nat) : Nat := (length + blk - 1) / blk

end Sys2Proof.Machine
end

