-- ==== Sys2Proof/Machine/Flags.lean ====
section
/-! DEFINITION. The checksum engine (43_checksum.md) and every flag that is a function of other state (10_state.md R21, R43, R52;
60_exceptions.md R296). -/

namespace Sys2Proof.Machine

/-- `sum_upd(a, b)`: the sum with end-around carry (43_checksum.md R176). -/
def sumUpd (a : Half) (b : Byte) : Half :=
  let t := a.toNat + b.toNat
  if 0xFFFF < t then BitVec.ofNat 16 (t - 0x10000 + 1) else BitVec.ofNat 16 t

/-- `tape_checksum(bs)` (43_checksum.md R178). -/
def tapeChecksum (bs : List Byte) : Half := bs.foldl sumUpd 0

/-- One shift of the CRC register (43_checksum.md R179). -/
def crcShift (c : Half) : Half := if c.getLsbD 15 then (c <<< 1) ^^^ 0x1021 else c <<< 1

/-- `n` shifts of the CRC register. -/
def crcShifts : Nat → Half → Half
  | 0, c => c
  | n + 1, c => crcShifts n (crcShift c)

/-- `crc_upd(c, b)`: polynomial 0x1021, most significant bit first (43_checksum.md R179). -/
def crcUpd (c : Half) (b : Byte) : Half := crcShifts 8 (c ^^^ (b ++ 0#8))

/-- `crc_ccitt(bs)`, from 0xFFFF, no final xor (43_checksum.md R180). -/
def crcCcitt (bs : List Byte) : Half := bs.foldl crcUpd 0xFFFF

/-- `CK` after the three A1 bytes that the marker finder consumes (41_marker.md R151; 43_checksum.md R180). -/
def crcPreset : Half := 0xCDB4

/-- The ones among the lowest `n` bits. -/
def onesBelow {w : Nat} (v : BitVec w) : Nat → Nat
  | 0 => 0
  | n + 1 => onesBelow v n + (v.getLsbD n).toNat

/-- `popcount(v)` (00_scope.md R10). -/
def popcount {w : Nat} (v : BitVec w) : Nat := onesBelow v w

/-- *Idle*: `ST` is IDLE, DONE or ERROR (46_commands.md R257). -/
def Ctl.isIdle (c : Ctl) : Bool := c == .idle || c == .done || c == .error

/-- The hold states, in which no token is accepted (10_state.md R52). -/
def Ctl.isHold (c : Ctl) : Bool := c.isIdle || c == .dDeliver

/-- `STATUS.READY` (10_state.md R52). -/
def State.ready (s : State) : Bool := !s.st.isHold

/-- `COMPLETE` (10_state.md R43). -/
def State.complete (s : State) : Bool := s.cfg.expect != 0 && (s.sectOk &&& s.cfg.expect) == s.cfg.expect

/-- `NSUCC` (10_state.md R43). -/
def State.nsucc (s : State) : Nat := popcount s.sectOk

/-- `NSEEN` (10_state.md R45). -/
def State.nseen (s : State) : Nat := popcount s.ses.h7.seen

/-- The pin `irq` (60_exceptions.md R296). -/
def State.irq (s : State) : Bool := (s.evt &&& s.ien) != 0

/-- The pin `s_ready` in a cycle with the given input pins (10_state.md R21; 70_reset_and_hazards.md R315). -/
def State.sReady (s : State) (c : PinCycle) : Bool := s.ready && !(c.bWe || c.bRe) && !c.rst

/-- The pin `b_rdata` in a cycle with the given input pins: the last read's data in the cycle after a read; any value in every
other cycle, and in every cycle with `rst` 1, one that follows a read included (10_state.md R21; 70_reset_and_hazards.md R315;
93_implementation_defined.md U15). DEDUCED: that U15's "during `rst`" goes before R21's "valid in the cycle after `b_re`"
(notes/assumptions/7.md). -/
def State.bRdata (s : State) (c : PinCycle) : Word := if s.rdValid && !c.rst then s.rdata else Config.rdataFree s.tick

end Sys2Proof.Machine
end

