-- ==== Sys2Proof/Machine/Ops.lean ====
section
/-! DEFINITION. The named operations over memory and registers, taking a terminal error and leaving it, non-fatal events, and
what a clock cycle presents at the pins. -/

namespace Sys2Proof.Machine

/-! ### `BUF` -/

/-- What an address that is not listed holds: no written byte (20_memory.md R71). -/
def Memory.unlisted : Option Byte := none

/-- The byte written at an address. -/
def Memory.get : Memory → Nat → Option Byte
  | [], _ => Memory.unlisted
  | (k, b) :: m, a => if k = a then some b else Memory.get m a

/-- Write a byte, keeping the addresses strictly rising. -/
def Memory.put : Memory → Nat → Byte → Memory
  | [], a, b => [(a, b)]
  | (k, c) :: m, a, b =>
    if a < k then (a, b) :: (k, c) :: m
    else if a = k then (a, b) :: m
    else (k, c) :: Memory.put m a b

/-- Addresses strictly rising from `lo` on, all below 65536. -/
def Memory.risingFrom : Nat → Memory → Bool
  | _, [] => true
  | lo, (k, _) :: m => decide (lo ≤ k) && decide (k < Config.bufSize) && Memory.risingFrom (k + 1) m

/-- The canonical form of `BUF`. -/
def Memory.wf (m : Memory) : Bool := Memory.risingFrom 0 m

/-- `MemRead(a, 1)` (00_scope.md R10): the byte most recently written (20_memory.md R79), or the free value of
70_reset_and_hazards.md R317 where no operation has written since reset. -/
def State.bufRead (s : State) (a : Nat) : Byte := (Memory.get s.buf a).getD (Config.bufInit s.epoch a)

/-- `MemWrite(a, 1, v)` (00_scope.md R10). -/
def State.bufWrite (s : State) (a : BitVec 16) (v : Byte) : State := { s with buf := Memory.put s.buf a.toNat v }

/-! ### Event flags, terminal errors, non-fatal events -/

/-- Set one event flag (10_state.md R36). -/
def State.setFlag (s : State) (f : Flag) : State := { s with evt := s.evt ||| f.mask }

/-- `raise Fatal(code, pos)`: taking a terminal error (60_exceptions.md R283). -/
def State.raiseFatal (s : State) (e : Fatal) (pos : Word) : State :=
  State.setFlag
    { s with
      ses.err.errcode := e.code
      ses.err.errst := s.st
      ses.err.errms := s.ses.mark.ms
      ses.err.errpos := pos
      st := .error } .err

/-- `clear_session` (46_commands.md R261). With START or ABORT, which write `ST` after it, this is the way out of ERROR
(60_exceptions.md R287). -/
def State.clearSession (s : State) : State := { s with ses := Session.zero }

/-- The flags whose events `NBAD` counts (60_exceptions.md R290). -/
def Flag.countsBad (f : Flag) : Bool := f == .hdrbad || f == .databad

/-- `event NonFatal(code, pos, flag)` (60_exceptions.md R290). -/
def State.nonFatal (s : State) (e : NonFatal) (pos : Word) (f : Flag) : State :=
  State.setFlag
    { s with
      ses.err.nfcode := e.code
      ses.err.nfpos := pos
      nbad := if f.countsBad then satInc s.nbad else s.nbad } f

/-- A refused command or register write: `EVT.REFUSED` and nothing else (46_commands.md R258; 10_state.md R67). -/
def State.refuse (s : State) : State := s.setFlag .refused

/-! ### Control transfers shared by several rules -/

/-- `start_bytes` (42_demod.md R163). -/
def State.startBytes (s : State) : State :=
  { s with ses.bits := { shr := 0, bitcnt := 0, bph := false }, ses.byteidx := 0 }

/-- Enter a marker state with `MS = M_LEAD`, `MCNT = 0` (41_marker.md R136). -/
def State.enterMarker (s : State) (c : Ctl) : State := { s with st := c, ses.mark.ms := .lead, ses.mark.mcnt := 0 }

/-- `enter_seek` (44_framing_tape.md R209). -/
def State.enterSeek (s : State) : State := { s with st := .h7Seek, ses.mark.ms := .lead, ses.mark.zrun := 0 }

/-- The window clear (41_marker.md R153). -/
def State.clearWindow (s : State) : State := { s with ses.win := Window.empty }

/-- `ST <- D_FIND_HDR; clear` (45_framing_disk.md R230). -/
def State.resumeFindHdr (s : State) : State := State.clearWindow { s with st := .dFindHdr }

/-- `ST <- DONE; EVT.DONE <- 1` (44_framing_tape.md R204; 45_framing_disk.md R245, R248). -/
def State.finish (s : State) : State := State.setFlag { s with st := .done } .done

/-! ### The pins (10_state.md R21) -/

/-- A cycle in which the bus is quiet and the period source presents its first token, if it has one. -/
def PinCycle.quiet : PinCycle := { rst := false, sValid := true, bWe := false, bRe := false, bAddr := 0, bWdata := 0 }

/-- The pin values of the present cycle. -/
def State.cycle (s : State) : PinCycle := s.pins.headD PinCycle.quiet

/-- What a cycle performs. -/
inductive PinEvent where
  /-- `rst` is 1 (70_reset_and_hazards.md R315). -/
  | reset
  /-- No bus access and no accepted token. -/
  | quiet
  /-- An operation: a bus access, or a token consumed from the period source. -/
  | op (w : OpWord)
  deriving DecidableEq, Repr

/-- What the present cycle performs: reset dominates (70_reset_and_hazards.md R315); a bus access forces `s_ready` to 0, so that
the token waits (20_memory.md R80); a token is consumed when `s_valid` and `s_ready` are 1 (10_state.md R21). -/
def State.pinEvent (s : State) : PinEvent :=
  if s.cycle.rst then .reset
  else if s.cycle.bWe || s.cycle.bRe then
    .op (.bus (BitVec.ofBool s.cycle.bWe ++ BitVec.ofBool s.cycle.bRe ++ s.cycle.bAddr) s.cycle.bWdata)
  else if s.cycle.sValid && s.sReady s.cycle then
    match s.source with
    | [] => .quiet
    | t :: _ => .op (.token t)
  else .quiet

/-- The end of a clock cycle: the next cycle's pins, and `b_rdata` no longer the data of a read of the cycle before. -/
def State.endCycle (s : State) : State := { s with pins := s.pins.tail, rdValid := false, tick := s.tick + 1 }

/-- The cycle in which an operation is accepted: a token leaves the period source (20_memory.md R85). -/
def State.accept (s : State) (w : OpWord) : State :=
  match w with
  | .token _ => { s.endCycle with source := s.source.tail }
  | .bus _ _ => s.endCycle

/-- A clock edge with `rst = 1`: every state element takes its reset value (70_reset_and_hazards.md R315, R316). `BUF` takes new
unspecified contents (R317): a new epoch. What is still to come at the pins is not the engine's state. -/
def State.resetEdge (s : State) : State :=
  { State.reset with pins := s.pins.tail, source := s.source, tick := s.tick + 1, epoch := s.tick + 1 }

end Sys2Proof.Machine
end

