-- ==== Sys2Proof/Machine/DiskFraming.lean ====
section
/-! DEFINITION. MFM sector framing (45_framing_disk.md): what a delivered byte, a bad period, the end of the stream and NEXT do. -/

namespace Sys2Proof.Machine

/-! ### Sector header -/

/-- Header mark mismatch (45_framing_disk.md R232). -/
def headerMagicBad (idx : Word) (s : State) : State := (s.nonFatal .hdrMagic idx .hdrbad).resumeFindHdr

/-- Bad period in `D_READ_HDR` (45_framing_disk.md R233). -/
def headerPeriodBad (idx : Word) (s : State) : State := (s.nonFatal .hdrPeriod idx .hdrbad).resumeFindHdr

/-- Seventh header byte, step 2: the size code (45_framing_disk.md R236). -/
def headerSizeStep (idx : Word) (s : State) : State :=
  if s.ses.sec.size = 0 then (s.nonFatal .hdrSize idx .hdrbad).resumeFindHdr
  else State.clearWindow { s with st := .dFindData, ses.look := 0 }

/-- The registers of the seventh header byte (45_framing_disk.md R235; validity 43_checksum.md R185). -/
def latchHeaderCrc (b : Byte) (s : State) : State :=
  let rd := word16 (s.ses.sec.hcrcRd.extractLsb' 8 8) b
  { s with
    ses.sec.hcrcRd := rd
    ses.sec.hcrcCk := s.ck
    ses.sec.hdrCrcOk := rd == s.ck
    ses.sec.size := sizeOfCode s.ses.sec.sizeCode }

/-- Seventh header byte, step 1: the CRC (45_framing_disk.md R235). -/
def headerCrcStep (b : Byte) (idx : Word) (s : State) : State :=
  let s1 := latchHeaderCrc b s
  if s1.ses.sec.hdrCrcOk then headerSizeStep idx s1
  else
    let s2 := s1.nonFatal .hdrCrc idx .hdrbad
    if s2.cfg.keepBad then headerSizeStep idx s2 else s2.resumeFindHdr

/-- The header field that byte `i` is stored in, for `i` 1 to 4; byte 0 is stored nowhere (45_framing_disk.md R231). -/
def storeSectorField (i : Nat) (b : Byte) (s : State) : State :=
  match i with
  | 1 => { s with ses.sec.track := b }
  | 2 => { s with ses.sec.side := b }
  | 3 => { s with ses.sec.number := b }
  | 4 => { s with ses.sec.sizeCode := b }
  | _ => s

/-- `deliver_disk_byte(b)` in `D_READ_HDR` (45_framing_disk.md R231). -/
def deliverSectorHeader (b : Byte) (idx : Word) (s : State) : State :=
  let i := s.ses.byteidx.toNat
  if i = 0 ∧ b ≠ 0xFE then headerMagicBad idx s
  else if i ≤ 4 then { storeSectorField i b s with ck := crcUpd s.ck b, ses.byteidx := s.ses.byteidx + 1 }
  else if i = 5 then { s with ses.sec.hcrcRd := word16 b 0, ses.byteidx := 6 }
  else headerCrcStep b idx s

/-! ### Sector data -/

/-- Data mark (45_framing_disk.md R238). -/
def dataMark (b : Byte) (idx : Word) (s : State) : State :=
  if b ≠ 0xFB then (s.nonFatal .dataMagic idx .databad).resumeFindHdr
  else { s with ck := crcUpd s.ck b, ses.byteidx := 1 }

/-- Payload byte (45_framing_disk.md R240). -/
def dataPayload (b : Byte) (s : State) : State :=
  { s.bufWrite (s.ses.byteidx - 1) b with ck := crcUpd s.ck b, ses.byteidx := s.ses.byteidx + 1 }

/-- The registers of the last CRC byte (45_framing_disk.md R241; validity 43_checksum.md R185). -/
def latchDataCrc (b : Byte) (s : State) : State :=
  let rd := word16 (s.ses.sec.dcrcRd.extractLsb' 8 8) b
  { s with
    ses.sec.dcrcRd := rd
    ses.sec.dcrcCk := s.ck
    ses.sec.dataCrcOk := rd == s.ck
    ses.sec.sizeOk := true
    ses.sec.slen := s.ses.sec.size
    ses.sec.svalid := s.ses.sec.hdrCrcOk && rd == s.ck }

/-- `SECT_OK[H_SECTOR] <- 1` for a valid sector numbered below 32 (45_framing_disk.md R241, R250). -/
def recordSector (s : State) : State :=
  if s.ses.sec.svalid ∧ s.ses.sec.number.toNat < Config.nSect then
    { s with sectOk := s.sectOk ||| BitVec.twoPow 32 s.ses.sec.number.toNat }
  else s

/-- `ST <- D_DELIVER; EVT.SECTOR <- 1` (45_framing_disk.md R241, R244). -/
def deliverSector (s : State) : State := State.setFlag { s with st := .dDeliver } .sector

/-- Last CRC byte (45_framing_disk.md R241, R243). -/
def dataCrcDone (b : Byte) (idx : Word) (s : State) : State :=
  let s1 := recordSector (latchDataCrc b s)
  if s1.ses.sec.svalid || s1.cfg.keepBad then
    let s2 := deliverSector s1
    if s2.ses.sec.dataCrcOk then s2 else s2.nonFatal .dataCrc idx .databad
  else (s1.nonFatal .dataCrc idx .databad).resumeFindHdr

/-- `deliver_disk_byte(b)` in `D_READ_DATA` (45_framing_disk.md R237). -/
def deliverSectorData (b : Byte) (idx : Word) (s : State) : State :=
  let i := s.ses.byteidx.toNat
  if i = 0 then dataMark b idx s
  else if i ≤ s.ses.sec.size.toNat then dataPayload b s
  else if i = s.ses.sec.size.toNat + 1 then
    { s with ses.sec.dcrcRd := word16 b 0, ses.byteidx := s.ses.byteidx + 1 }
  else dataCrcDone b idx s

/-- Partial delivery (45_framing_disk.md R244). -/
def partialDelivery (s : State) : State :=
  let slen : BitVec 11 := BitVec.ofNat 11 (min (s.ses.byteidx.toNat - 1) s.ses.sec.size.toNat)
  deliverSector { s with
    ses.sec.slen := slen
    ses.sec.sizeOk := slen == s.ses.sec.size
    ses.sec.dataCrcOk := false
    ses.sec.svalid := false
    ses.sec.dcrcRd := 0
    ses.sec.dcrcCk := s.ck }

/-- `KEEP_BAD == 1 and BYTEIDX >= 1` (45_framing_disk.md R242, R246). -/
def keepsPartial (s : State) : Bool := s.cfg.keepBad && s.ses.byteidx != 0

/-- Bad period in `D_READ_DATA` (45_framing_disk.md R242). -/
def dataPeriodBad (idx : Word) (s : State) : State :=
  let s1 := s.nonFatal .dataPeriod idx .databad
  if keepsPartial s1 then partialDelivery s1 else s1.resumeFindHdr

/-! ### End of stream, completion -/

/-- EOS in `D_FIND_HDR`, `D_READ_HDR`, `D_FIND_DATA` (45_framing_disk.md R245). -/
def diskEosSearch (s : State) : State :=
  if s.ses.thr.calok then s.finish else s.raiseFatal .nomark s.ses.pos

/-- EOS in `D_READ_DATA` (45_framing_disk.md R246). -/
def diskEosData (s : State) : State :=
  let s1 := s.nonFatal .dataEos s.ses.pos .databad
  if keepsPartial s1 then partialDelivery { s1 with ses.eosp := true } else s1.finish

/-- `finish_track` (45_framing_disk.md R248). -/
def finishTrack (s : State) : State := s.finish

end Sys2Proof.Machine
end

