-- ==== Sys2Proof/Machine/Commands.lean ====
section
/-! DEFINITION. The commands (46_commands.md R255 to R268; 43_checksum.md R183, R184): each effect once, and the meanings of the
command rows. A command in a state that does not allow it is refused: `EVT.REFUSED` and nothing else (R258). -/

namespace Sys2Proof.Machine

/-- START would raise `E_CFG`: `PROFILE` 1 or 3, or TAPE with `H7EN = 1` and `H7BLK = 0` (46_commands.md R262). -/
def ConfigRegs.illegal (c : ConfigRegs) : Bool :=
  c.profile == 1 || c.profile == 3 || (c.profile == 0 && c.h7en && c.h7blk == 0)

/-- NOP: no state change at all (46_commands.md R260). -/
def cmdNop (s : State) : State := s

/-- START (46_commands.md R262). -/
def cmdStart (s : State) : State :=
  if !s.st.isIdle then s.refuse
  else if s.cfg.illegal then State.raiseFatal { s.clearSession with st := .idle } .cfg 0
  else if s.cfg.profile = 0 then { s.clearSession with st := .tFindPilot }
  else { s.clearSession with st := .dFindHdr }

/-- ABORT: always accepted (46_commands.md R264). -/
def cmdAbort (s : State) : State := { s.clearSession with st := .idle }

/-- NEXT: accepted in `D_DELIVER` only (46_commands.md R266). -/
def cmdNext (s : State) : State :=
  if s.st ≠ .dDeliver then s.refuse
  else if s.ses.eosp || s.complete then finishTrack s
  else s.resumeFindHdr

/-- TRKCLR (46_commands.md R268). -/
def cmdTrkclr (s : State) : State :=
  if !s.st.isIdle then s.refuse else { s with sectOk := 0, rev := 0, nbad := 0 }

/-- CKINIT (43_checksum.md R183). -/
def cmdCkinit (alg : Bool) (s : State) : State :=
  if !s.st.isIdle then s.refuse else { s with ckalg := alg, ck := if alg then 0xFFFF else 0 }

/-- CKBYTE (43_checksum.md R184). -/
def cmdCkbyte (b : Byte) (s : State) : State :=
  if !s.st.isIdle then s.refuse else { s with ck := if s.ckalg then crcUpd s.ck b else sumUpd s.ck b }

/-- A write to `CMD` (46_commands.md R256): `op` in bits 7:0, `arg` in bits 15:8; every other `op` is refused (R257). -/
def commandWrite (w : Word) (s : State) : State :=
  match (w.extractLsb' 0 8).toNat with
  | 0x00 => cmdNop s
  | 0x01 => cmdStart s
  | 0x02 => cmdAbort s
  | 0x03 => cmdNext s
  | 0x04 => cmdTrkclr s
  | 0x10 => cmdCkinit (w.getLsbD 8) s
  | 0x11 => cmdCkbyte (w.extractLsb' 8 8) s
  | _ => s.refuse

/-- NOP (46_commands.md R260). -/
def execNop (s : State) : Res := .next (cmdNop s)

/-- START (46_commands.md R262). -/
def execStart (s : State) : Res := .next (cmdStart s)

/-- ABORT (46_commands.md R264). -/
def execAbort (s : State) : Res := .next (cmdAbort s)

/-- NEXT (46_commands.md R266). -/
def execNext (s : State) : Res := .next (cmdNext s)

/-- TRKCLR (46_commands.md R268). -/
def execTrkclr (s : State) : Res := .next (cmdTrkclr s)

/-- CKINIT (43_checksum.md R183). -/
def execCkinit (alg : Bool) (s : State) : Res := .next (cmdCkinit alg s)

/-- CKBYTE (43_checksum.md R184). -/
def execCkbyte (b : Byte) (s : State) : Res := .next (cmdCkbyte b s)

end Sys2Proof.Machine
end

