-- ==== Sys2Proof/Machine/Csr.lean ====
section
/-! DEFINITION. The control and status registers (10_state.md R50 to R67) and the meanings of CSRRD and CSRWR
(46_commands.md R274). -/

namespace Sys2Proof.Machine

/-- The mapped registers (10_state.md R50). -/
inductive Csr where
  | id | cmd | status | cfg | coef | limit | h7cfg | expect | ien | evt | unit | cutoff | maxlen | pos | err | errpos
  | lastev | lastevpos | record | recck | name0 | name1 | name2 | name3 | sechdr | secstat | hdrcrc | datcrc | sectok
  | counts | ckreg | h7stat | h7blki | h7own | bufaddr | bufdata
  deriving DecidableEq, Repr

/-- The register at a byte offset, the low two bits ignored; none for an unmapped offset (10_state.md R50). -/
def csrAt (addr : Byte) : Option Csr :=
  match (addr.extractLsb' 2 6).toNat with
  | 0 => some .id
  | 1 => some .cmd
  | 2 => some .status
  | 3 => some .cfg
  | 4 => some .coef
  | 5 => some .limit
  | 6 => some .h7cfg
  | 7 => some .expect
  | 8 => some .ien
  | 9 => some .evt
  | 10 => some .unit
  | 11 => some .cutoff
  | 12 => some .maxlen
  | 13 => some .pos
  | 14 => some .err
  | 15 => some .errpos
  | 16 => some .lastev
  | 17 => some .lastevpos
  | 18 => some .record
  | 19 => some .recck
  | 20 => some .name0
  | 21 => some .name1
  | 22 => some .name2
  | 23 => some .name3
  | 24 => some .sechdr
  | 25 => some .secstat
  | 26 => some .hdrcrc
  | 27 => some .datcrc
  | 28 => some .sectok
  | 29 => some .counts
  | 30 => some .ckreg
  | 31 => some .h7stat
  | 32 => some .h7blki
  | 33 => some .h7own
  | 34 => some .bufaddr
  | 35 => some .bufdata
  | _ => none

/-- The constant `ID` (10_state.md R51). -/
def idWord : Word := 0x424B0001

/-- A flag as a field of width 1. -/
def bit1 (b : Bool) : BitVec 1 := BitVec.ofBool b

/-- `STATUS` (10_state.md R52). -/
def statusWord (s : State) : Word :=
  0#8 ++ bit1 s.ses.eosp ++ bit1 s.ses.h7.h7act ++ bit1 s.ses.thr.calok ++ bit1 s.complete ++ bit1 s.ses.rcd.notrailer
    ++ bit1 s.ses.rcd.valid ++ bit1 s.ses.rcd.isFinal ++ bit1 s.ready ++ 0#4 ++ bit1 s.ses.bits.bph ++ s.ses.mark.ms.code
    ++ 0#2 ++ s.st.code

/-- `CFG` (10_state.md R53). -/
def cfgWord (c : ConfigRegs) : Word := 0#28 ++ bit1 c.h7en ++ bit1 c.keepBad ++ c.profile

/-- `COEF` (10_state.md R54). -/
def coefWord (c : ConfigRegs) : Word := c.drift ++ c.longk ++ c.maxk ++ c.coeff

/-- `LIMIT` (10_state.md R55). -/
def limitWord (c : ConfigRegs) : Word := c.lookmax ++ c.pilotMin

/-- `H7CFG` (10_state.md R56). -/
def h7cfgWord (c : ConfigRegs) : Word := c.h7blk ++ c.h7val ++ 0#4 ++ c.h7idx

/-- `ERR` (10_state.md R60). -/
def errWord (e : ErrorRegs) : Word := 0#13 ++ e.errms.code ++ 0#2 ++ e.errst.code ++ e.errcode

/-- `NAMEk`: name byte `4k + j` in byte lane `j` (10_state.md R61; 20_memory.md R75). -/
def nameWord (n : Vector Byte 16) (k : Fin 4) : Word :=
  n[4 * k.val + 3] ++ n[4 * k.val + 2] ++ n[4 * k.val + 1] ++ n[4 * k.val]

/-- `SECHDR` (10_state.md R62). -/
def sechdrWord (c : Sector) : Word := c.sizeCode ++ c.number ++ c.side ++ c.track

/-- `SECSTAT` (10_state.md R62). -/
def secstatWord (c : Sector) : Word :=
  0#12 ++ bit1 c.svalid ++ bit1 c.sizeOk ++ bit1 c.dataCrcOk ++ bit1 c.hdrCrcOk ++ 0#5 ++ c.slen

/-- `COUNTS` (10_state.md R63). -/
def countsWord (s : State) : Word := 0#8 ++ s.rev ++ s.nbad ++ 0#2 ++ BitVec.ofNat 6 s.nsucc

/-- `H7STAT` (10_state.md R65). -/
def h7statWord (s : State) : Word := 0#7 ++ BitVec.ofNat 9 s.nseen ++ s.ses.h7.remain

/-- The value a read of a register returns (10_state.md R51 to R66; `CMD` reads 0, R67 (c)). -/
def readCsr (r : Csr) (s : State) : Word :=
  match r with
  | .id => idWord
  | .cmd => 0
  | .status => statusWord s
  | .cfg => cfgWord s.cfg
  | .coef => coefWord s.cfg
  | .limit => limitWord s.cfg
  | .h7cfg => h7cfgWord s.cfg
  | .expect => s.cfg.expect
  | .ien => 0#20 ++ s.ien
  | .evt => 0#20 ++ s.evt
  | .unit => 0#8 ++ s.ses.thr.unit
  | .cutoff => s.ses.thr.cutoff
  | .maxlen => s.ses.thr.maxlen
  | .pos => s.ses.pos
  | .err => errWord s.ses.err
  | .errpos => s.ses.err.errpos
  | .lastev => 0#24 ++ s.ses.err.nfcode
  | .lastevpos => s.ses.err.nfpos
  | .record => s.ses.rcd.length ++ s.ses.rcd.startAddr
  | .recck => s.ses.rcd.cck ++ s.ses.rcd.rck
  | .name0 => nameWord s.ses.rcd.name 0
  | .name1 => nameWord s.ses.rcd.name 1
  | .name2 => nameWord s.ses.rcd.name 2
  | .name3 => nameWord s.ses.rcd.name 3
  | .sechdr => sechdrWord s.ses.sec
  | .secstat => secstatWord s.ses.sec
  | .hdrcrc => s.ses.sec.hcrcCk ++ s.ses.sec.hcrcRd
  | .datcrc => s.ses.sec.dcrcCk ++ s.ses.sec.dcrcRd
  | .sectok => s.sectOk
  | .counts => countsWord s
  | .ckreg => 0#15 ++ bit1 s.ckalg ++ s.ck
  | .h7stat => h7statWord s
  | .h7blki => s.ses.h7.blen ++ s.ses.h7.bnum
  | .h7own => 0#15 ++ bit1 s.ses.h7.ownset ++ s.ses.h7.owner
  | .bufaddr => 0#16 ++ s.bufaddr
  | .bufdata => 0#24 ++ s.bufRead s.bufaddr.toNat

/-- The value at an offset; an unmapped offset reads 0 (10_state.md R67 (c)). -/
def readAt (addr : Byte) (s : State) : Word :=
  match csrAt addr with
  | some r => readCsr r s
  | none => 0

/-- The side effect of a read: only `BUFDATA` has one, `BUFADDR <- (BUFADDR + 1) mod 65536` (10_state.md R66, R67 (f)). -/
def readEffect (addr : Byte) (s : State) : State :=
  if csrAt addr = some .bufdata then { s with bufaddr := s.bufaddr + 1 } else s

/-- CSRRD: the data appears on `b_rdata` (46_commands.md R274; 10_state.md R21). -/
def execCsrrd (addr : Byte) (s : State) : Res :=
  .next { readEffect addr s with rdata := readAt addr s, rdValid := true }

/-- A write to a cfg-locked register: refused while `ST` is not idle (10_state.md R67 (a)). -/
def lockedWrite (f : ConfigRegs → ConfigRegs) (s : State) : State :=
  if s.st.isIdle then { s with cfg := f s.cfg } else s.refuse

/-- The fields of a word written to `CFG` (10_state.md R53). -/
def ConfigRegs.withCfg (v : Word) (c : ConfigRegs) : ConfigRegs :=
  { c with profile := v.extractLsb' 0 2, keepBad := v.getLsbD 2, h7en := v.getLsbD 3 }

/-- The fields of a word written to `COEF` (10_state.md R54). -/
def ConfigRegs.withCoef (v : Word) (c : ConfigRegs) : ConfigRegs :=
  { c with coeff := v.extractLsb' 0 8, maxk := v.extractLsb' 8 8, longk := v.extractLsb' 16 8, drift := v.extractLsb' 24 8 }

/-- The fields of a word written to `LIMIT` (10_state.md R55). -/
def ConfigRegs.withLimit (v : Word) (c : ConfigRegs) : ConfigRegs :=
  { c with pilotMin := v.extractLsb' 0 16, lookmax := v.extractLsb' 16 16 }

/-- The fields of a word written to `H7CFG` (10_state.md R56). -/
def ConfigRegs.withH7cfg (v : Word) (c : ConfigRegs) : ConfigRegs :=
  { c with h7idx := v.extractLsb' 0 4, h7val := v.extractLsb' 8 8, h7blk := v.extractLsb' 16 16 }

/-- A word written to `EXPECT` (10_state.md R57). -/
def ConfigRegs.withExpect (v : Word) (c : ConfigRegs) : ConfigRegs := { c with expect := v }

/-- What a write of a word to a register does (10_state.md R50, R53 to R58, R66, R67; 46_commands.md R256, R274). -/
def writeCsr (r : Csr) (v : Word) (s : State) : State :=
  match r with
  | .cmd => commandWrite v s
  | .cfg => lockedWrite (ConfigRegs.withCfg v) s
  | .coef => lockedWrite (ConfigRegs.withCoef v) s
  | .limit => lockedWrite (ConfigRegs.withLimit v) s
  | .h7cfg => lockedWrite (ConfigRegs.withH7cfg v) s
  | .expect => lockedWrite (ConfigRegs.withExpect v) s
  | .ien => { s with ien := v.extractLsb' 0 12 }
  | .evt => { s with evt := s.evt &&& ~~~(v.extractLsb' 0 12) }
  | .bufaddr => { s with bufaddr := v.extractLsb' 0 16 }
  | .id => s
  | .status => s
  | .unit => s
  | .cutoff => s
  | .maxlen => s
  | .pos => s
  | .err => s
  | .errpos => s
  | .lastev => s
  | .lastevpos => s
  | .record => s
  | .recck => s
  | .name0 => s
  | .name1 => s
  | .name2 => s
  | .name3 => s
  | .sechdr => s
  | .secstat => s
  | .hdrcrc => s
  | .datcrc => s
  | .sectok => s
  | .counts => s
  | .ckreg => s
  | .h7stat => s
  | .h7blki => s
  | .h7own => s
  | .bufdata => s

/-- A write at an offset; an unmapped offset is ignored (10_state.md R67 (b)). -/
def writeAt (addr : Byte) (v : Word) (s : State) : State :=
  match csrAt addr with
  | some r => writeCsr r v s
  | none => s

/-- CSRWR (46_commands.md R274). -/
def execCsrwr (addr : Byte) (data : Word) (s : State) : Res := .next (writeAt addr data s)

end Sys2Proof.Machine
end

