-- ==== Sys2Proof/Machine/Calibrator.lean ====
section
/-! DEFINITION. PERIOD in the pilot states (40_calibrator.md). Each function takes the period `p`, its index `idx` and the state
after the common step of 46_commands.md R271. -/

namespace Sys2Proof.Machine

/-- Seed or restart a run: `SUM <- p`, `CNT <- 1` (40_calibrator.md R122, R125). -/
def pilotSeed (p : Half) (s : State) : State := { s with ses.pilot := { sum := p.zeroExtend 32, cnt := 1 } }

/-- Accumulate; at `CNT = 65535` the period is consumed and the mean is frozen (40_calibrator.md R123). -/
def pilotAccumulate (p : Half) (s : State) : State :=
  if s.ses.pilot.cnt = BitVec.allOnes 16 then s
  else { s with ses.pilot := { sum := s.ses.pilot.sum + p.zeroExtend 32, cnt := s.ses.pilot.cnt + 1 } }

/-- `floor((SUM << 8) / CNT)`, Q8 (40_calibrator.md R126). -/
def pilotUnit (r : PilotRun) : BitVec 24 := BitVec.ofNat 24 ((r.sum.toNat <<< 8) / r.cnt.toNat)

/-- The tape threshold set of a unit: `CUTOFF`, `MAXLEN` by `COEFF`, `MAXK`, truncated (40_calibrator.md R126). -/
def tapeThresholds (c : ConfigRegs) (u : BitVec 24) : Thresholds where
  unit := u
  cutoff := BitVec.ofNat 32 ((u.toNat * c.coeff.toNat) >>> 4)
  maxlen := BitVec.ofNat 32 ((u.toNat * c.maxk.toNat) >>> 4)
  calok := true

/-- The accepted terminal (40_calibrator.md R126). -/
def pilotCalibrate (s : State) : State :=
  State.setFlag { s with ses.thr := tapeThresholds s.cfg (pilotUnit s.ses.pilot), st := .tPilotFound } .cal

/-- PERIOD in `T_FIND_PILOT`: the tests in the order of 40_calibrator.md R121. -/
def findPilot (p : Half) (s : State) : State :=
  if s.ses.pilot.cnt = 0 then pilotSeed p s
  else if isTerminal s.cfg s.ses.pilot p && decide (s.cfg.pilotMin.toNat ≤ s.ses.pilot.cnt.toNat) then pilotCalibrate s
  else if inTolerance s.cfg s.ses.pilot p then pilotAccumulate p s
  else pilotSeed p s

/-- PERIOD in `T_PILOT_FOUND`: "sync 1" (40_calibrator.md R130). -/
def pilotSync1 (p : Half) (idx : Word) (s : State) : State :=
  if !isOne s.ses.thr p then s.raiseFatal .msync idx
  else if tooLong s.ses.thr p then s.raiseFatal .bitlong idx
  else { s with st := .tPilotFound2 }

/-- PERIOD in `T_PILOT_FOUND2`: "sync 0" (40_calibrator.md R131). -/
def pilotSync0 (p : Half) (idx : Word) (s : State) : State :=
  if !syncOk s.ses.thr p then s.raiseFatal .msync idx
  else s.enterMarker .tHdrMarker

end Sys2Proof.Machine
end

