-- ==== Sys2Proof/Machine/TapeFraming.lean ====
section
/-! DEFINITION. Tape and HELP7 framing (44_framing_tape.md): what a completed marker and a delivered byte do. -/

namespace Sys2Proof.Machine

/-! ### Completed markers -/

/-- `marker_done` in `T_HDR_MARKER` (44_framing_tape.md R198). -/
def hdrMarkerDone (s : State) : State := { s.startBytes with st := .tReadHdr }

/-- `marker_done` in `T_BODY_MARKER` (44_framing_tape.md R201). -/
def bodyMarkerDone (s : State) : State :=
  { s.startBytes with ck := 0, st := if s.ses.rcd.length = 0 then .tChecksum else .tReadData }

/-- `marker_done` in `T_END_TRAILER` (44_framing_tape.md R204). -/
def trailerDone (s : State) : State := s.finish

/-- Seek success (44_framing_tape.md R210). -/
def seekDone (s : State) : State := { s.startBytes with ck := 0, st := .h7ReadBhdr }

/-! ### The ordinary file -/

/-- HELP7 detection and geometry (44_framing_tape.md R207). -/
def help7Detect (idx : Word) (s : State) : State :=
  let nb := blockCount s.ses.rcd.length.toNat s.cfg.h7blk.toNat
  let s1 : State := { s with ses.h7.h7act := true, ses.h7.remain := s.ses.rcd.length }
  if nb = 0 ∨ Config.h7MaxBlk < nb then s1.raiseFatal .h7geom idx
  else State.enterSeek { s1 with ses.h7.nb := BitVec.ofNat 9 nb }

/-- The record fields of the 20 header bytes (44_framing_tape.md R199; byte order 20_memory.md R73). -/
def latchHeader (s : State) : State :=
  { s with
    ses.rcd.startAddr := word16 s.ses.hb[1] s.ses.hb[0]
    ses.rcd.length := word16 s.ses.hb[3] s.ses.hb[2]
    ses.rcd.name := Vector.ofFn fun i : Fin 16 => s.ses.hb[4 + i.val] }

/-- `NAME[H7IDX] == H7VAL` with `H7EN = 1` (44_framing_tape.md R199, R207). -/
def isHelp7 (s : State) : Bool := s.cfg.h7en && s.ses.rcd.name[s.cfg.h7idx.toNat] == s.cfg.h7val

/-- The 20th header byte has arrived (44_framing_tape.md R199). -/
def headerDone (idx : Word) (s : State) : State :=
  let s1 := latchHeader s
  if isHelp7 s1 then help7Detect idx s1 else s1.enterMarker .tBodyMarker

/-- `HB[BYTEIDX] <- b; BYTEIDX <- BYTEIDX + 1` (44_framing_tape.md R199, R212). -/
def storeHeaderByte (b : Byte) (s : State) : State :=
  { s with ses.hb := s.ses.hb.setIfInBounds s.ses.byteidx.toNat b, ses.byteidx := s.ses.byteidx + 1 }

/-- `deliver_tape_byte(b)` in `T_READ_HDR` (44_framing_tape.md R199). -/
def deliverHeader (b : Byte) (idx : Word) (s : State) : Res :=
  if Config.hdrLen ≤ s.ses.byteidx.toNat then .fault .arrayIndex
  else
    let s1 := storeHeaderByte b s
    if s1.ses.byteidx = 20 then .next (headerDone idx s1) else .next s1

/-- `deliver_tape_byte(b)` in `T_READ_DATA` (44_framing_tape.md R202). -/
def deliverData (b : Byte) (_idx : Word) (s : State) : Res :=
  let s1 : State := { s.bufWrite s.ses.byteidx b with ck := sumUpd s.ck b, ses.byteidx := s.ses.byteidx + 1 }
  if s1.ses.byteidx = s1.ses.rcd.length then .next { s1 with st := .tChecksum, ses.byteidx := 0 } else .next s1

/-- `deliver_tape_byte(b)` in `T_CHECKSUM` (44_framing_tape.md R203; validity 43_checksum.md R185). -/
def deliverChecksum (b : Byte) (_idx : Word) (s : State) : Res :=
  if s.ses.byteidx = 0 then .next { s with ses.rcd.rck := b.zeroExtend 16, ses.byteidx := 1 }
  else
    let rck := word16 b (s.ses.rcd.rck.extractLsb' 0 8)
    let s1 : State := { s with
      ses.rcd.rck := rck
      ses.rcd.cck := s.ck
      ses.rcd.isFinal := true
      ses.rcd.valid := rck == s.ck }
    .next ((s1.setFlag .record).enterMarker .tEndTrailer)

/-! ### HELP7 blocks -/

/-- Period violation inside a block (44_framing_tape.md R211). -/
def blockViolation (idx : Word) (s : State) : State := (s.nonFatal .h7Period idx .h7fail).enterSeek

/-- The block header fields (44_framing_tape.md R212). -/
def latchBlockHeader (s : State) : State :=
  { s with
    ses.h7.bnum := word16 s.ses.hb[1] s.ses.hb[0]
    ses.h7.blen := word16 s.ses.hb[3] s.ses.hb[2]
    ses.h7.bown := word16 s.ses.hb[5] s.ses.hb[4] }

/-- `ok` of 44_framing_tape.md R212: number, length and owner. -/
def blockHeaderOk (s : State) : Bool :=
  decide (1 ≤ s.ses.h7.bnum.toNat) && decide (s.ses.h7.bnum.toNat ≤ s.ses.h7.nb.toNat)
    && s.ses.h7.blen.toNat == explen s.ses.h7.nb.toNat s.ses.rcd.length.toNat s.cfg.h7blk.toNat s.ses.h7.bnum.toNat
    && !(s.ses.h7.ownset && s.ses.h7.bown != s.ses.h7.owner)

/-- `SEEN[BNUM - 1]` lies inside `SEEN[0..255]` (10_state.md R45). -/
def seenIndexOk (s : State) : Bool := decide (1 ≤ s.ses.h7.bnum.toNat) && decide (s.ses.h7.bnum.toNat ≤ Config.h7MaxBlk)

/-- The sixth block header byte has arrived (44_framing_tape.md R212, R213). -/
def blockHeaderDone (idx : Word) (s : State) : Res :=
  let s1 := latchBlockHeader s
  if !blockHeaderOk s1 then .next (s1.nonFatal .h7Hdr idx .h7fail).enterSeek
  else if !seenIndexOk s1 then .fault .arrayIndex
  else if s1.ses.h7.seen.getLsbD (s1.ses.h7.bnum.toNat - 1) then .next (s1.nonFatal .h7Dup idx .h7dup).enterSeek
  else .next { s1 with st := .h7ReadBody, ses.byteidx := 0 }

/-- `deliver_tape_byte(b)` in `H7_READ_BHDR` (44_framing_tape.md R212). -/
def deliverBlockHeader (b : Byte) (idx : Word) (s : State) : Res :=
  if Config.hdrLen ≤ s.ses.byteidx.toNat then .fault .arrayIndex
  else
    let s1 : State := { storeHeaderByte b s with ck := sumUpd s.ck b }
    if s1.ses.byteidx = 6 then blockHeaderDone idx s1 else .next s1

/-- The address of a block body byte: `(BNUM - 1) * H7BLK + BYTEIDX` (44_framing_tape.md R214). -/
def blockAddr (s : State) : Nat := (s.ses.h7.bnum.toNat - 1) * s.cfg.h7blk.toNat + s.ses.byteidx.toNat

/-- `deliver_tape_byte(b)` in `H7_READ_BODY` (44_framing_tape.md R214). -/
def deliverBlockBody (b : Byte) (_idx : Word) (s : State) : Res :=
  if Config.bufSize ≤ blockAddr s then .fault .bufRange
  else
    let s1 : State := { s.bufWrite (BitVec.ofNat 16 (blockAddr s)) b with
      ck := sumUpd s.ck b
      ses.byteidx := s.ses.byteidx + 1 }
    if s1.ses.byteidx = s1.ses.h7.blen then .next { s1 with st := .h7Bcksum, ses.byteidx := 0 } else .next s1

/-- `BUF[0 .. LENGTH-1]` in address order (43_checksum.md R177). -/
def fileBody (s : State) : List Byte := (List.range s.ses.rcd.length.toNat).map s.bufRead

/-- HELP7 finalization (44_framing_tape.md R217). -/
def help7Finalize (s : State) : State :=
  let ck := tapeChecksum (fileBody s)
  let s1 : State := { s with
    ck := ck
    ses.rcd.rck := s.ses.h7.owner
    ses.rcd.cck := ck
    ses.rcd.isFinal := true
    ses.rcd.valid := s.ses.h7.owner == ck }
  (s1.setFlag .record).finish

/-- Block accepted (44_framing_tape.md R216). -/
def blockAccepted (s : State) : Res :=
  if !seenIndexOk s then .fault .arrayIndex
  else
    let s1 : State := { s with
      ses.h7.seen := s.ses.h7.seen ||| BitVec.twoPow 256 (s.ses.h7.bnum.toNat - 1)
      ses.h7.remain := s.ses.h7.remain - s.ses.h7.blen
      ses.h7.owner := if s.ses.h7.ownset then s.ses.h7.owner else s.ses.h7.bown
      ses.h7.ownset := true }
    let s2 := s1.setFlag .h7blk
    if s2.ses.h7.remain = 0 then .next (help7Finalize s2) else .next s2.enterSeek

/-- `deliver_tape_byte(b)` in `H7_BCKSUM` (44_framing_tape.md R215). -/
def deliverBlockChecksum (b : Byte) (idx : Word) (s : State) : Res :=
  if s.ses.byteidx = 0 then .next { s with ses.h7.bck := b.zeroExtend 16, ses.byteidx := 1 }
  else
    let s1 : State := { s with ses.h7.bck := word16 b (s.ses.h7.bck.extractLsb' 0 8) }
    if s1.ses.h7.bck = s1.ck then blockAccepted s1 else .next (s1.nonFatal .h7Cksum idx .h7fail).enterSeek

end Sys2Proof.Machine
end

