-- ==== Sys2Proof/Machine/Demod.lean ====
section
/-! DEFINITION. PERIOD in the byte-reading states (42_demod.md): tape bit cells into `SHR`, disk intervals into `RAW`. The byte's
own rule is passed in as `deliver`, the rule for an illegal period as `violation` or `bad`. -/

namespace Sys2Proof.Machine

/-! ### Tape -/

/-- A bit enters `SHR` at bit 7 (42_demod.md R160). -/
def shiftInBit (bit : Bool) (shr : Byte) : Byte := BitVec.ofBool bit ++ shr.extractLsb' 1 7

/-- `violation` of an ordinary file: a terminal error (42_demod.md R162). -/
def fileViolation (e : Fatal) (idx : Word) (s : State) : State := s.raiseFatal e idx

/-- `violation` inside a HELP7 block: the block is abandoned, the code not recorded (42_demod.md R162). -/
def help7Violation (_e : Fatal) (idx : Word) (s : State) : State := blockViolation idx s

/-- Data period (42_demod.md R159). -/
def tapeDataPeriod (violation : Fatal → Word → State → State) (p : Half) (idx : Word) (s : State) : Res :=
  if tooLong s.ses.thr p then .next (violation .bitlong idx s)
  else .next { s with ses.bits.shr := shiftInBit (isOne s.ses.thr p) s.ses.bits.shr, ses.bits.bph := true }

/-- Sync period (42_demod.md R161). -/
def tapeSyncPeriod (violation : Fatal → Word → State → State) (deliver : Byte → Word → State → Res)
    (p : Half) (idx : Word) (s : State) : Res :=
  if !syncOk s.ses.thr p then .next (violation .synclong idx s)
  else
    let n := s.ses.bits.bitcnt + 1
    if n = 8 then deliver s.ses.bits.shr idx { s with ses.bits.bph := false, ses.bits.bitcnt := 0 }
    else .next { s with ses.bits.bph := false, ses.bits.bitcnt := n }

/-- PERIOD in a tape byte-reading state: dispatch on `BPH` (42_demod.md R158). -/
def tapeBytePeriod (violation : Fatal → Word → State → State) (deliver : Byte → Word → State → Res)
    (p : Half) (idx : Word) (s : State) : Res :=
  if s.ses.bits.bph then tapeSyncPeriod violation deliver p idx s else tapeDataPeriod violation p idx s

/-! ### Disk -/

/-- The class of an interval against the stored `UNIT` (42_demod.md R164). -/
def unitClass (t : Thresholds) (p : Half) : Option Interval := classify (p.toNat <<< 10) t.unit.toNat

/-- Push raw bits, delivering a byte at the sixteenth and stopping when that changes `ST` (42_demod.md R165). Raw bits come with
periods only: at the end of a stream the last data CRC byte can stay one or two raw bits short where no period follows it, and
R165 is followed there against the `g3 = 0` of 45_framing_disk.md R251 (a) (DEDUCED, notes/assumptions/22.md). -/
def pushRaw (deliver : Byte → Word → State → State) (idx : Word) : List Bool → State → State
  | [], s => s
  | r :: rs, s =>
    let raw : BitVec 16 := s.ses.rawb.raw.extractLsb' 0 15 ++ BitVec.ofBool r
    let n := s.ses.rawb.rawcnt + 1
    if n = 16 then
      let s1 := deliver (dataByte raw) idx { s with ses.rawb := { raw := raw, rawcnt := 0 } }
      if s1.st = s.st then pushRaw deliver idx rs s1 else s1
    else pushRaw deliver idx rs { s with ses.rawb := { raw := raw, rawcnt := n } }

/-- PERIOD in `D_READ_HDR` or `D_READ_DATA` (42_demod.md R164, R165, R169). -/
def diskBytePeriod (bad : Word → State → State) (deliver : Byte → Word → State → State)
    (p : Half) (idx : Word) (s : State) : State :=
  match unitClass s.ses.thr p with
  | none => bad idx s
  | some c => pushRaw deliver idx (rawBitsOf c) s

end Sys2Proof.Machine
end

