-- ==== Sys2Proof/Machine/Marker.lean ====
section
/-! DEFINITION. PERIOD in the marker states (41_marker.md): the strict tape marker, the HELP7 seek, the trailer, and the disk
window. -/

namespace Sys2Proof.Machine

/-! ### Tape -/

/-- `M_LEAD` (41_marker.md R138). -/
def strictLead (p : Half) (idx : Word) (s : State) : State :=
  if isOne s.ses.thr p then s.raiseFatal .mlead idx
  else { s with ses.mark.mcnt := 1, ses.mark.ms := .body }

/-- `M_BODY` (41_marker.md R139); the count saturates as 00_scope.md R11 says. -/
def strictBody (p : Half) (idx : Word) (s : State) : State :=
  if isOne s.ses.thr p then s.raiseFatal .mbody idx
  else
    let n := satInc s.ses.mark.mcnt
    { s with ses.mark.mcnt := n, ses.mark.ms := if n.toNat = Config.markN then .final else .body }

/-- `M_FINAL` (41_marker.md R140). -/
def strictFinal (p : Half) (idx : Word) (s : State) : State :=
  if !isOne s.ses.thr p then s.raiseFatal .mfinal idx
  else { s with ses.mark.ms := .sync1 }

/-- `M_SYNC1` (41_marker.md R141). -/
def strictSync1 (p : Half) (idx : Word) (s : State) : State :=
  if !isOne s.ses.thr p then s.raiseFatal .msync idx
  else if tooLong s.ses.thr p then s.raiseFatal .bitlong idx
  else { s with ses.mark.ms := .sync0 }

/-- `M_SYNC0` (41_marker.md R142, R143); `done` is the `marker_done` of the state. -/
def strictSync0 (done : State → State) (p : Half) (idx : Word) (s : State) : State :=
  if !syncOk s.ses.thr p then s.raiseFatal .msync idx else done s

/-- PERIOD in `T_HDR_MARKER` or `T_BODY_MARKER`: dispatch on `MS` (41_marker.md R137). -/
def strictMarker (done : State → State) (p : Half) (idx : Word) (s : State) : State :=
  match s.ses.mark.ms with
  | .lead => strictLead p idx s
  | .body => strictBody p idx s
  | .final => strictFinal p idx s
  | .sync1 => strictSync1 p idx s
  | .sync0 => strictSync0 done p idx s

/-- `M_LEAD` of the seek (41_marker.md R144). -/
def seekLead (p : Half) (s : State) : State :=
  if !isOne s.ses.thr p then { s with ses.mark.zrun := satInc s.ses.mark.zrun }
  else if 8 ≤ s.ses.mark.zrun.toNat then { s with ses.mark.ms := .sync1 }
  else { s with ses.mark.zrun := 0 }

/-- `M_SYNC1` of the seek (41_marker.md R144). -/
def seekSync1 (p : Half) (s : State) : State :=
  if isOne s.ses.thr p && !tooLong s.ses.thr p then { s with ses.mark.ms := .sync0 }
  else { s with ses.mark.ms := .lead, ses.mark.zrun := if isOne s.ses.thr p then 0 else 1 }

/-- `M_SYNC0` of the seek (41_marker.md R144). -/
def seekSync0 (p : Half) (s : State) : State :=
  if syncOk s.ses.thr p then seekDone s
  else { s with ses.mark.ms := .lead, ses.mark.zrun := 0 }

/-- PERIOD in `H7_SEEK` (41_marker.md R144). -/
def seekMarker (p : Half) (s : State) : Res :=
  match s.ses.mark.ms with
  | .lead => .next (seekLead p s)
  | .sync1 => .next (seekSync1 p s)
  | .sync0 => .next (seekSync0 p s)
  | .body => .fault .markerPhase
  | .final => .fault .markerPhase

/-- `M_LEAD` of the trailer (41_marker.md R145). -/
def trailerLead (p : Half) (s : State) : State :=
  if isOne s.ses.thr p then { s with ses.mark.ms := .sync1 }
  else { s with ses.mark.mcnt := satInc s.ses.mark.mcnt }

/-- PERIOD in `T_END_TRAILER`, the `ignore_errors` mode (41_marker.md R145). -/
def trailerMarker (p : Half) (s : State) : Res :=
  match s.ses.mark.ms with
  | .lead => .next (trailerLead p s)
  | .sync1 => .next { s with ses.mark.ms := .sync0 }
  | .sync0 => .next (trailerDone s)
  | .body => .fault .markerPhase
  | .final => .fault .markerPhase

/-! ### Disk -/

/-- `floor((WSUM << 8) / 24)`, Q8 (41_marker.md R150). -/
def windowUnit (wsum : BitVec 20) : BitVec 24 := BitVec.ofNat 24 ((wsum.toNat <<< 8) / 24)

/-- The disk threshold set of a unit: 1.25 and 2.25 units (41_marker.md R150). -/
def diskThresholds (u : BitVec 24) : Thresholds where
  unit := u
  cutoff := BitVec.ofNat 32 ((u.toNat * 5) >>> 2)
  maxlen := BitVec.ofNat 32 ((u.toNat * 9) >>> 2)
  calok := true

/-- A match: the unit estimate (41_marker.md R150) and the hand-over to the byte reader `next` (R151). -/
def windowMatched (next : Ctl) (s : State) : State :=
  State.setFlag
    { s with
      ses.thr := diskThresholds (windowUnit s.ses.win.wsum)
      ck := crcPreset
      ses.rawb := { raw := 1, rawcnt := 2 }
      ses.byteidx := 0
      ses.win := Window.empty
      st := next } .cal

/-- PERIOD in `D_FIND_HDR` (41_marker.md R147). -/
def findHeader (p : Half) (s : State) : State :=
  let s1 : State := { s with ses.win := s.ses.win.shift p }
  if windowMatches s1.ses.win then windowMatched .dReadHdr s1 else s1

/-- PERIOD in `D_FIND_DATA` (41_marker.md R147, R152): the window is kept at the timeout. -/
def findData (p : Half) (idx : Word) (s : State) : State :=
  let s1 : State := { s with ses.look := satInc s.ses.look, ses.win := s.ses.win.shift p }
  if windowMatches s1.ses.win then windowMatched .dReadData s1
  else if s1.ses.look = s1.cfg.lookmax then { s1.nonFatal .dataTimeout idx .databad with st := .dFindHdr }
  else s1

end Sys2Proof.Machine
end

