-- ==== Sys2Proof/Machine/Tokens.lean ====
section
/-! DEFINITION. The meanings of the four token kinds (46_commands.md R269 to R275). A token that meets a hold state is not
consumed and has no effect (R269). -/

namespace Sys2Proof.Machine

/-- PERIOD dispatch by `ST`, after the common step (46_commands.md R275). -/
def periodByState (p : Half) (idx : Word) (s : State) : Res :=
  match s.st with
  | .tFindPilot => .next (findPilot p s)
  | .tPilotFound => .next (pilotSync1 p idx s)
  | .tPilotFound2 => .next (pilotSync0 p idx s)
  | .tHdrMarker => .next (strictMarker hdrMarkerDone p idx s)
  | .tBodyMarker => .next (strictMarker bodyMarkerDone p idx s)
  | .tEndTrailer => trailerMarker p s
  | .h7Seek => seekMarker p s
  | .tReadHdr => tapeBytePeriod fileViolation deliverHeader p idx s
  | .tReadData => tapeBytePeriod fileViolation deliverData p idx s
  | .tChecksum => tapeBytePeriod fileViolation deliverChecksum p idx s
  | .h7ReadBhdr => tapeBytePeriod help7Violation deliverBlockHeader p idx s
  | .h7ReadBody => tapeBytePeriod help7Violation deliverBlockBody p idx s
  | .h7Bcksum => tapeBytePeriod help7Violation deliverBlockChecksum p idx s
  | .dFindHdr => .next (findHeader p s)
  | .dFindData => .next (findData p idx s)
  | .dReadHdr => .next (diskBytePeriod headerPeriodBad deliverSectorHeader p idx s)
  | .dReadData => .next (diskBytePeriod dataPeriodBad deliverSectorData p idx s)
  | .idle => .next s
  | .done => .next s
  | .error => .next s
  | .dDeliver => .next s

/-- The `POS` increment of the common step (46_commands.md R271; wraps, 00_scope.md R11). -/
def State.countPeriod (s : State) : State := { s with ses.pos := s.ses.pos + 1 }

/-- PERIOD: the common step, then the state's rule (46_commands.md R271). -/
def execPeriod (len : Half) (s : State) : Res :=
  if !s.ready then .next s
  else if len = 0 then .next (s.countPeriod.raiseFatal .zero s.ses.pos)
  else periodByState len s.ses.pos s.countPeriod

/-- EOS dispatch by `ST` (46_commands.md R270; 40_calibrator.md R128; 44_framing_tape.md R205, R206, R218). -/
def eosByState (s : State) : State :=
  match s.st with
  | .tFindPilot => s.raiseFatal .pilot s.ses.pos
  | .tEndTrailer => State.finish { s with ses.rcd.notrailer := true }
  | .tPilotFound => s.raiseFatal .eos s.ses.pos
  | .tPilotFound2 => s.raiseFatal .eos s.ses.pos
  | .tHdrMarker => s.raiseFatal .eos s.ses.pos
  | .tReadHdr => s.raiseFatal .eos s.ses.pos
  | .tBodyMarker => s.raiseFatal .eos s.ses.pos
  | .tReadData => s.raiseFatal .eos s.ses.pos
  | .tChecksum => s.raiseFatal .eos s.ses.pos
  | .h7Seek => s.raiseFatal .eos s.ses.pos
  | .h7ReadBhdr => s.raiseFatal .eos s.ses.pos
  | .h7ReadBody => s.raiseFatal .eos s.ses.pos
  | .h7Bcksum => s.raiseFatal .eos s.ses.pos
  | .dFindHdr => diskEosSearch s
  | .dReadHdr => diskEosSearch s
  | .dFindData => diskEosSearch s
  | .dReadData => diskEosData s
  | .idle => s
  | .done => s
  | .error => s
  | .dDeliver => s

/-- EOS (46_commands.md R270). -/
def execEos (s : State) : Res := .next (if s.ready then eosByState s else s)

/-- INDEX: `REV <- min(REV + 1, 255)`, `EVT.INDEX <- 1`, nothing else (46_commands.md R272). -/
def execIndex (s : State) : Res :=
  .next (if s.ready then State.setFlag { s with rev := satInc s.rev } .index else s)

/-- The reserved token: `E_TOKEN` at `POS`, which is not advanced (46_commands.md R273). -/
def execRsv (s : State) : Res := .next (if s.ready then s.raiseFatal .token s.ses.pos else s)

end Sys2Proof.Machine
end

