-- ==== Sys2Proof/Machine/Dispatch.lean ====
section
/-! DEFINITION. One arm for each operation of opcode_table.json. -/

namespace Sys2Proof.Machine

-- The meaning of an operation at a state.
def exec (i : Instr) (s : State) : Host.Outcome State Fault Refusal :=
  match i with
  | .period len => Sys2Proof.Machine.execPeriod len s
  | .eos => Sys2Proof.Machine.execEos s
  | .index => Sys2Proof.Machine.execIndex s
  | .rsv => Sys2Proof.Machine.execRsv s
  | .nop => Sys2Proof.Machine.execNop s
  | .start => Sys2Proof.Machine.execStart s
  | .abort => Sys2Proof.Machine.execAbort s
  | .next => Sys2Proof.Machine.execNext s
  | .trkclr => Sys2Proof.Machine.execTrkclr s
  | .ckinit alg => Sys2Proof.Machine.execCkinit alg s
  | .ckbyte b => Sys2Proof.Machine.execCkbyte b s
  | .csrrd addr => Sys2Proof.Machine.execCsrrd addr s
  | .csrwr addr data => Sys2Proof.Machine.execCsrwr addr data s

end Sys2Proof.Machine
end

