-- ==== Sys2Proof/Machine/Step.lean ====
section
/-! DEFINITION. One step: one clock cycle, in which at most one operation is accepted and executed (10_state.md R20, R21;
20_memory.md R79, R80). -/

namespace Sys2Proof.Machine

/-- One clock cycle. A bus word with neither strobe is no operation (10_state.md R21). -/
def step (s : State) : Host.Outcome State Fault Refusal :=
  match s.pinEvent with
  | .reset => .next s.resetEdge
  | .quiet => .next s.endCycle
  | .op w =>
    match decode w with
    | .ok i => exec i (s.accept w)
    | .error _ => .next s.endCycle

/-- A cycle that presents a bus word. -/
def PinCycle.ofBus (w : BitVec 10) (wdata : Word) : PinCycle where
  rst := false
  sValid := false
  bWe := w.getLsbD 9
  bRe := w.getLsbD 8
  bAddr := w.extractLsb' 0 8
  bWdata := wdata

/-- The state with an operation placed where the next step takes it from: a bus word in the next cycle of the pin schedule; a
token at the head of the period source's queue, in a quiet cycle, and, where `READY` is 0 (no token is accepted), the control
state `T_FIND_PILOT` that START gives at the reset configuration (notes/assumptions 2). -/
def State.withFetchWord (s : State) (nbits w : Nat) : State :=
  match tableWord nbits w with
  | some (.bus bw wdata) => { s with pins := PinCycle.ofBus bw wdata :: s.pins }
  | some (.token t) =>
    { s with
      pins := PinCycle.quiet :: s.pins
      source := t :: s.source
      st := if s.ready then s.st else .tFindPilot }
  | none => s

end Sys2Proof.Machine
end

