-- ==== Sys2Proof/Safety.lean ====
section
/-! DEFINITION. What the claims are stated in: the invariant of every state that a run from reset can be in, clause by clause with
its rule, and where an operation stores in `BUF`. -/

namespace Sys2Proof.Machine

/-- The tape states in which a token is accepted (10_state.md R32). -/
def Ctl.isTape (c : Ctl) : Bool :=
  match c with
  | .tFindPilot => true
  | .tPilotFound => true
  | .tPilotFound2 => true
  | .tHdrMarker => true
  | .tReadHdr => true
  | .tBodyMarker => true
  | .tReadData => true
  | .tChecksum => true
  | .tEndTrailer => true
  | .h7Seek => true
  | .h7ReadBhdr => true
  | .h7ReadBody => true
  | .h7Bcksum => true
  | .dFindHdr => false
  | .dReadHdr => false
  | .dFindData => false
  | .dReadData => false
  | .dDeliver => false
  | .idle => false
  | .done => false
  | .error => false

/-- The four HELP7 states (10_state.md R32). -/
def Ctl.isHelp7 (c : Ctl) : Bool := c == .h7Seek || c == .h7ReadBhdr || c == .h7ReadBody || c == .h7Bcksum

/-- The states of a running MFM session (10_state.md R32). -/
def Ctl.isDisk (c : Ctl) : Bool :=
  c == .dFindHdr || c == .dReadHdr || c == .dFindData || c == .dReadData || c == .dDeliver

end Sys2Proof.Machine

namespace Sys2Proof

/-- The four token kinds of format T (30_encoding.md R91). -/
def Instr.isToken (i : Instr) : Bool :=
  match i with
  | .period _ => true
  | .eos => true
  | .index => true
  | .rsv => true
  | .nop => false
  | .start => false
  | .abort => false
  | .next => false
  | .trkclr => false
  | .ckinit _ => false
  | .ckbyte _ => false
  | .csrrd _ => false
  | .csrwr _ _ => false

/-- The command that an operation executes: a command row is its own; a bus write to `CMD` is the command of its word, none for
a reserved `op` (46_commands.md R256, R257). -/
def Instr.command (i : Instr) : Option Instr :=
  match i with
  | .nop => some .nop
  | .start => some .start
  | .abort => some .abort
  | .next => some .next
  | .trkclr => some .trkclr
  | .ckinit alg => some (.ckinit alg)
  | .ckbyte b => some (.ckbyte b)
  | .csrwr addr data => if Machine.csrAt addr = some .cmd then (decodeCommand data).toOption else none
  | .period _ => none
  | .eos => none
  | .index => none
  | .rsv => none
  | .csrrd _ => none

end Sys2Proof

namespace Sys2Proof.Machine

/-- The `BUF` address that the byte completed in the present state is stored to: the body byte of 44_framing_tape.md R202, the
block byte of R214, the payload byte of 45_framing_disk.md R240; none where the byte is not stored (20_memory.md R72). -/
def State.storeAddr (s : State) : Option Nat :=
  match s.st with
  | .tReadData => some s.ses.byteidx.toNat
  | .h7ReadBody => some (blockAddr s)
  | .dReadData =>
    if 1 ≤ s.ses.byteidx.toNat ∧ s.ses.byteidx.toNat ≤ s.ses.sec.size.toNat then some (s.ses.byteidx.toNat - 1) else none
  | _ => none

/-- The configuration a running session relies on: START checked it and the lock keeps it (46_commands.md R262; 10_state.md
R67). -/
def ConfigInv (s : State) : Prop :=
  (s.st.isIdle = false → s.cfg.illegal = false)
    ∧ (s.st.isTape = true → s.cfg.profile = 0)
    ∧ (s.st.isDisk = true → s.cfg.profile = 2)
    ∧ (s.st.isHelp7 = true → s.cfg.h7en = true)

/-- The threshold set: 0 while it is not valid, and valid wherever a rule reads it (10_state.md R24, R35; 42_demod.md R156). -/
def ThresholdInv (s : State) : Prop :=
  (s.ses.thr.calok = false → s.ses.thr.unit = 0 ∧ s.ses.thr.cutoff = 0 ∧ s.ses.thr.maxlen = 0)
    ∧ (s.st.isIdle = false → s.st ≠ .tFindPilot → s.st ≠ .dFindHdr → s.ses.thr.calok = true)

/-- The pilot run: `CNT <= SUM <= 65535 * CNT` (40_calibrator.md R132 (a), with 0 before the first period). -/
def PilotInv (s : State) : Prop :=
  s.ses.pilot.cnt.toNat ≤ s.ses.pilot.sum.toNat ∧ s.ses.pilot.sum.toNat ≤ 65535 * s.ses.pilot.cnt.toNat

/-- The marker phase and count: the strict marker counts 0, 1 to 7, then 8 (41_marker.md R136 to R140); the seek and the trailer
use three phases only (R144, R145). -/
def MarkerInv (s : State) : Prop :=
  (s.st = .tHdrMarker ∨ s.st = .tBodyMarker →
      (s.ses.mark.ms = .lead → s.ses.mark.mcnt = 0)
        ∧ (s.ses.mark.ms = .body → 1 ≤ s.ses.mark.mcnt.toNat ∧ s.ses.mark.mcnt.toNat ≤ 7)
        ∧ (s.ses.mark.ms ≠ .lead → s.ses.mark.ms ≠ .body → s.ses.mark.mcnt = 8))
    ∧ (s.st = .tEndTrailer ∨ s.st = .h7Seek → s.ses.mark.ms ≠ .body ∧ s.ses.mark.ms ≠ .final)

/-- The disk window: `WSUM` is the sum of its entries, and the entries beyond `WCNT` are 0 (10_state.md R30; 41_marker.md R155). -/
def WindowInv (s : State) : Prop :=
  s.ses.win.wsum.toNat = (s.ses.win.w.toList.map BitVec.toNat).sum
    ∧ ∀ i : Fin 15, i.val + s.ses.win.wcnt.toNat < 15 → s.ses.win.w[i] = 0

/-- The bit counters between operations: `BITCNT` 0 to 7, `RAWCNT` 0 to 15 (10_state.md R26, R31). -/
def ShifterInv (s : State) : Prop := s.ses.bits.bitcnt.toNat ≤ 7 ∧ s.ses.rawb.rawcnt.toNat ≤ 15

/-- The byte index in each field (44_framing_tape.md R199, R202, R203, R212, R214, R215; 45_framing_disk.md R231, R237). -/
def ByteIndexInv (s : State) : Prop :=
  (s.st = .tReadHdr → s.ses.byteidx.toNat < 20)
    ∧ (s.st = .tReadData → s.ses.byteidx.toNat < s.ses.rcd.length.toNat)
    ∧ (s.st = .tChecksum ∨ s.st = .h7Bcksum → s.ses.byteidx.toNat ≤ 1)
    ∧ (s.st = .h7ReadBhdr → s.ses.byteidx.toNat < 6)
    ∧ (s.st = .h7ReadBody → s.ses.byteidx.toNat < s.ses.h7.blen.toNat)
    ∧ (s.st = .dReadHdr → s.ses.byteidx.toNat ≤ 6)
    ∧ (s.st = .dReadData → s.ses.byteidx.toNat ≤ s.ses.sec.size.toNat + 2)

/-- The HELP7 geometry and the block being read (44_framing_tape.md R207, R208, R212); no HELP7 bookkeeping in an ordinary
file. -/
def Help7Inv (s : State) : Prop :=
  (s.st.isTape = true → s.st.isHelp7 = false → s.ses.h7.h7act = false) ∧
  (s.ses.h7.h7act = false → s.ses.h7.seen = 0 ∧ s.ses.h7.ownset = false) ∧
  (s.st.isHelp7 = true →
      s.ses.h7.h7act = true
        ∧ s.ses.h7.nb.toNat = blockCount s.ses.rcd.length.toNat s.cfg.h7blk.toNat
        ∧ 1 ≤ s.ses.h7.nb.toNat ∧ s.ses.h7.nb.toNat ≤ 256)
    ∧ (s.st = .h7ReadBody ∨ s.st = .h7Bcksum →
      blockHeaderOk s = true ∧ s.ses.h7.seen.getLsbD (s.ses.h7.bnum.toNat - 1) = false)

/-- The file record's flags (10_state.md R35; 44_framing_tape.md R203 to R205, R217). -/
def RecordInv (s : State) : Prop :=
  (s.ses.rcd.isFinal = true →
      (s.st = .tEndTrailer ∨ s.st = .done ∨ s.st = .error) ∧ s.ses.rcd.valid = (s.ses.rcd.rck == s.ses.rcd.cck))
    ∧ (s.ses.rcd.isFinal = false → s.ses.rcd.valid = false)
    ∧ (s.ses.rcd.notrailer = true → s.st = .done)
    ∧ (s.st = .tEndTrailer → s.ses.rcd.isFinal = true)

/-- The sector registers: the legal sizes, and in `D_DELIVER` the meaning of the verdicts (45_framing_disk.md R235, R236, R241,
R244, R246; 10_state.md R42). -/
def SectorInv (s : State) : Prop :=
  (s.ses.sec.size = 0 ∨ s.ses.sec.size = 256 ∨ s.ses.sec.size = 512 ∨ s.ses.sec.size = 1024)
    ∧ (s.st = .dFindData ∨ s.st = .dReadData ∨ s.st = .dDeliver → s.ses.sec.size ≠ 0)
    ∧ (s.st = .dDeliver →
        s.ses.sec.svalid = (s.ses.sec.hdrCrcOk && s.ses.sec.sizeOk && s.ses.sec.dataCrcOk)
          ∧ s.ses.sec.sizeOk = (s.ses.sec.slen == s.ses.sec.size)
          ∧ s.ses.sec.slen.toNat ≤ s.ses.sec.size.toNat)
    ∧ (s.ses.eosp = true → s.st = .dDeliver ∨ s.st = .done)

/-- The error registers: an error is recorded exactly in ERROR, and the codes are those of the tables (60_exceptions.md R282,
R286 to R288). -/
def ErrorInv (s : State) : Prop :=
  (s.st = .error ↔ s.ses.err.errcode ≠ 0) ∧ s.ses.err.errcode.toNat ≤ 13 ∧ s.ses.err.nfcode.toNat ≤ 13

/-- What holds in every state that a run from reset can be in. -/
structure Inv (s : State) : Prop where
  buf : Memory.wf s.buf = true
  config : ConfigInv s
  thresholds : ThresholdInv s
  pilot : PilotInv s
  marker : MarkerInv s
  window : WindowInv s
  shifter : ShifterInv s
  byteIndex : ByteIndexInv s
  help7 : Help7Inv s
  record : RecordInv s
  sector : SectorInv s
  error : ErrorInv s

/-- The body bytes of the accepted blocks: the sum of `explen(k)` over `SEEN[k-1] = 1`, `k <= NB` (44_framing_tape.md R219 (c)). -/
def splicedBytes (s : State) : Nat :=
  ((List.range s.ses.h7.nb.toNat).map fun k =>
    if s.ses.h7.seen.getLsbD k then explen s.ses.h7.nb.toNat s.ses.rcd.length.toNat s.cfg.h7blk.toNat (k + 1) else 0).sum

/-- HELP7 bookkeeping: in a HELP7 file (`H7ACT = 1`), whatever `ST`, `REMAIN` and the spliced bytes add up to `LENGTH`
(44_framing_tape.md R219 (c)); while the file is being read some byte is missing (R216). -/
def Help7Books (s : State) : Prop :=
  (s.ses.h7.h7act = true → s.ses.h7.remain.toNat + splicedBytes s = s.ses.rcd.length.toNat)
    ∧ (s.st.isHelp7 = true → s.ses.h7.remain ≠ 0)

/-- A run is safe when no step of it stops: every step answers a next state. -/
def StepSafe (s : State) : Prop := ∃ t, step s = .next t

/-! ### Streams of periods, as claims feed them -/

/-- The PERIOD tokens of a list, one operation each, stopping at the first that answers no next state. -/
def execPeriods : List Half → State → Res
  | [], s => .next s
  | p :: ps, s =>
    match exec (.period p) s with
    | .next t => execPeriods ps t
    | .fault r => .fault r
    | .refused r => .refused r

/-- `TBYTE(u, b)`: bit 0 first, a one is `2u`, a zero `u`, each followed by a sync period `u` (30_encoding.md R113). -/
def tapeByte (u : Half) (b : Byte) : List Half :=
  (List.range 8).flatMap fun k => [if b.getLsbD k then 2 * u else u, u]

/-- The exact disk marker at half-cell `h`: `4h, 3h, 4h, 3h, 2h` three times (41_marker.md R155 (d)). -/
def diskMarker (h : Half) : List Half :=
  (List.replicate 3 [4 * h, 3 * h, 4 * h, 3 * h, 2 * h]).flatten

/-- The byte-reading tape states (42_demod.md R158). -/
def Ctl.isTapeByte (c : Ctl) : Bool :=
  c == .tReadHdr || c == .tReadData || c == .tChecksum || c == .h7ReadBhdr || c == .h7ReadBody || c == .h7Bcksum

/-- `deliver_tape_byte(b)` of a byte-reading tape state (42_demod.md R161); no rule in the others. -/
def deliverTapeByte (b : Byte) (idx : Word) (s : State) : Res :=
  match s.st with
  | .tReadHdr => deliverHeader b idx s
  | .tReadData => deliverData b idx s
  | .tChecksum => deliverChecksum b idx s
  | .h7ReadBhdr => deliverBlockHeader b idx s
  | .h7ReadBody => deliverBlockBody b idx s
  | .h7Bcksum => deliverBlockChecksum b idx s
  | _ => .next s

/-- `deliver_disk_byte(b)` of a byte-reading disk state (42_demod.md R168). -/
def deliverDiskByte (b : Byte) (idx : Word) (s : State) : State :=
  if s.st = .dReadHdr then deliverSectorHeader b idx s else deliverSectorData b idx s

/-- Half-cells of a disk interval `p` at a unit: 2, 3 or 4 (42_demod.md R164). -/
def halfCells (unit : BitVec 24) (p : Half) : Nat :=
  if 1024 * p.toNat < 5 * unit.toNat then 2 else if 1024 * p.toNat < 7 * unit.toNat then 3 else 4

end Sys2Proof.Machine
end

