-- ==== Sys2Proof/Certificates/Slice0/Obligations.lean ====
section
/-! DEFINITION. The statements for the provers, from the numbered rules of spec/. Each docstring names the rules; where a clause
rests on the model's own choice it names the log entry. -/

section

open Sys2Proof Sys2Proof.Machine

/-- Decoding the word of a well-formed operation gives the operation back. Decode and encode agree on every operation of
opcode_table.json (30_encoding.md R90 to R94). -/
def Obligations.DecodeEncodeRoundTrip : Prop :=
  ∀ i : Instr, i.wellFormed = true → decode (encode i) = .ok i

/-- Which operation each word at the pins is, its ignored bits ignored. 30_encoding.md R91 to R94; 10_state.md R21 (both strobes
together are a write). That a write of a reserved op decodes to the plain csrwr is the model's choice, DEDUCED
(notes/assumptions/4.md). -/
def Obligations.OperationWords : Prop :=
  (∀ len : Half, decode (.token (0#2 ++ len)) = .ok (.period len) ∧ decode (.token (1#2 ++ len)) = .ok .eos
      ∧ decode (.token (2#2 ++ len)) = .ok .index ∧ decode (.token (3#2 ++ len)) = .ok .rsv)
    ∧ (∀ (re : BitVec 1) (low : BitVec 2) (hi : Half) (arg op : Byte),
      decode (.bus (1#1 ++ re ++ (1#6 ++ low : Byte)) (hi ++ arg ++ op)) = .ok
        (if op = 0x00 then .nop else if op = 0x01 then .start else if op = 0x02 then .abort
        else if op = 0x03 then .next else if op = 0x04 then .trkclr
        else if op = 0x10 then .ckinit (arg.getLsbD 0) else if op = 0x11 then .ckbyte arg
        else .csrwr (1#6 ++ low) (hi ++ arg ++ op)))
    ∧ (∀ (re : BitVec 1) (addr : Byte) (data : Word), addr.extractLsb' 2 6 ≠ 1 →
      decode (.bus (1#1 ++ re ++ addr) data) = .ok (.csrwr addr data))
    ∧ (∀ (addr : Byte) (data : Word), decode (.bus (0#1 ++ 1#1 ++ addr) data) = .ok (.csrrd addr))
    ∧ ∀ (addr : Byte) (data : Word), decode (.bus (0#1 ++ 0#1 ++ addr) data) = .error .noStrobe

/-- Words written out from the encoding tables decode to their operations. A sanity statement on words from 30_encoding.md R91 to
R94. -/
def Obligations.SpecWordsDecode : Prop :=
  decode (.token 0b000000000000001010#18) = .ok (.period 10)
    ∧ decode (.token 0b010000000000000000#18) = .ok .eos
    ∧ decode (.token 0b100000000000000000#18) = .ok .index
    ∧ decode (.token 0b110000000000000000#18) = .ok .rsv
    ∧ decode (.bus 0b1000000100#10 0x00000001) = .ok .start
    ∧ decode (.bus 0b1000000100#10 0x00000110) = .ok (.ckinit true)
    ∧ decode (.bus 0b1000000100#10 0x0000A111) = .ok (.ckbyte 0xA1)
    ∧ decode (.bus 0b0100001000#10 0) = .ok (.csrrd 0x08)
    ∧ decode (.bus 0b1000001100#10 2) = .ok (.csrwr 0x0C 2)

/-- The numeric codes of the error and event tables, the control states and the flags. 60_exceptions.md R282, R288; 10_state.md
R32, R33, R36. -/
def Obligations.NumericCodes : Prop :=
  [Fatal.pilot, .nomark, .bitlong, .synclong, .mlead, .mbody, .mfinal, .msync, .eos, .cfg, .token, .zero, .h7geom].map
      (fun e => (Fatal.code e).toNat) = List.range' 1 13
    ∧ [NonFatal.hdrMagic, .hdrCrc, .hdrSize, .hdrPeriod, .dataTimeout, .dataMagic, .dataPeriod, .dataCrc, .h7Period, .h7Hdr,
      .h7Cksum, .h7Dup, .dataEos].map (fun e => (NonFatal.code e).toNat) = List.range' 1 13
    ∧ [Ctl.idle, .tFindPilot, .tPilotFound, .tPilotFound2, .tHdrMarker, .tReadHdr, .tBodyMarker, .tReadData, .tChecksum,
      .tEndTrailer, .done, .h7Seek, .h7ReadBhdr, .h7ReadBody, .h7Bcksum, .dFindHdr, .dReadHdr, .dFindData, .dReadData,
      .dDeliver, .error].map (fun c => (Ctl.code c).toNat)
        = [0, 1, 2, 3, 4, 5, 6, 7, 8, 9, 10, 11, 12, 13, 14, 16, 17, 18, 19, 20, 31]
    ∧ [Phase.lead, .body, .final, .sync1, .sync0].map (fun m => (Phase.code m).toNat) = [0, 1, 2, 3, 4]
    ∧ [Flag.done, .err, .sector, .record, .cal, .hdrbad, .databad, .h7blk, .h7fail, .h7dup, .refused, .index].map
      (fun f => (Flag.mask f).toNat) = [1, 2, 4, 8, 16, 32, 64, 128, 256, 512, 1024, 2048]

/-- A step runs the operation that the cycle accepts, or nothing: a token waits in a hold state. 20_memory.md R79, R80, R85;
10_state.md R20, R21; 46_commands.md R269. The pin schedule and the token queue are the model's (notes/assumptions/1.md),
`tick` too (7). -/
def Obligations.StepRunsDecodedOperation : Prop :=
  (∀ (s : State) (i : Instr), s.cycle.rst = false → (s.cycle.bWe = true ∨ s.cycle.bRe = true) →
      decode (.bus (BitVec.ofBool s.cycle.bWe ++ BitVec.ofBool s.cycle.bRe ++ s.cycle.bAddr) s.cycle.bWdata) = .ok i →
      step s = exec i { s with pins := s.pins.tail, rdValid := false, tick := s.tick + 1 })
    ∧ (∀ (s : State) (w : BitVec 18) (rest : List (BitVec 18)) (i : Instr), s.cycle.rst = false → s.cycle.bWe = false →
      s.cycle.bRe = false → s.cycle.sValid = true → s.st ≠ .idle → s.st ≠ .done → s.st ≠ .error → s.st ≠ .dDeliver →
      s.source = w :: rest → decode (.token w) = .ok i →
      step s = exec i { s with pins := s.pins.tail, rdValid := false, tick := s.tick + 1, source := rest })
    ∧ ∀ s : State, s.cycle.rst = false → s.cycle.bWe = false → s.cycle.bRe = false →
      (s.cycle.sValid = false ∨ s.source = [] ∨ s.st = .idle ∨ s.st = .done ∨ s.st = .error ∨ s.st = .dDeliver) →
      step s = .next { s with pins := s.pins.tail, rdValid := false, tick := s.tick + 1 }

/-- A cycle with rst gives every state element its reset value, whatever else is presented. 70_reset_and_hazards.md R315, R316.
The fields `pins`, `source`, `tick`, `epoch`, `rdValid` and the list of written bytes `buf` are the model's (notes/assumptions
1, 5, 6, 7): no byte of BUF is written and no read is pending, so that BUF and b_rdata are free values. -/
def Obligations.ResetValues : Prop :=
  (∀ s : State, s.cycle.rst = true →
      step s = .next { State.reset with pins := s.pins.tail, source := s.source, tick := s.tick + 1, epoch := s.tick + 1 })
    ∧ State.reset.st = .idle
    ∧ State.reset.ses.thr = ⟨0, 0, 0, false⟩ ∧ State.reset.ses.pilot = ⟨0, 0⟩ ∧ State.reset.ses.bits = ⟨0, 0, false⟩
    ∧ State.reset.ses.mark = ⟨.lead, 0, 0⟩ ∧ State.reset.ses.win = ⟨Vector.replicate 15 0, 0, 0⟩
    ∧ State.reset.ses.look = 0 ∧ State.reset.ses.rawb = ⟨0, 0⟩ ∧ State.reset.ses.pos = 0 ∧ State.reset.ses.byteidx = 0
    ∧ State.reset.ses.hb = Vector.replicate 20 0
    ∧ State.reset.ses.rcd = ⟨0, 0, Vector.replicate 16 0, 0, 0, false, false, false⟩
    ∧ State.reset.ses.sec = ⟨0, 0, 0, 0, 0, 0, 0, false, 0, 0, 0, false, false, false⟩
    ∧ State.reset.ses.h7 = ⟨false, 0, 0, 0, 0, 0, 0, 0, 0, false⟩ ∧ State.reset.ses.eosp = false
    ∧ State.reset.ses.err = ⟨0, .idle, .lead, 0, 0, 0⟩
    ∧ readAt 0x0C State.reset = 0 ∧ readAt 0x10 State.reset = 0x04303018 ∧ readAt 0x14 State.reset = 0x019000C8
    ∧ readAt 0x18 State.reset = 0 ∧ readAt 0x1C State.reset = 0
    ∧ State.reset.ien = 0 ∧ State.reset.evt = 0 ∧ State.reset.sectOk = 0 ∧ State.reset.nbad = 0 ∧ State.reset.rev = 0
    ∧ State.reset.ck = 0 ∧ State.reset.ckalg = false ∧ State.reset.bufaddr = 0
    ∧ State.reset.buf = [] ∧ (∀ a : Nat, State.reset.bufRead a = Config.bufInit State.reset.epoch a)
    ∧ State.reset.rdValid = false ∧ ∀ c : PinCycle, State.reset.bRdata c = Config.rdataFree State.reset.tick

/-- The invariant holds right after reset. 70_reset_and_hazards.md R316. -/
def Obligations.ResetInv : Prop :=
  Inv State.reset ∧ Help7Books State.reset

/-- Every step keeps the invariant of the machine. The clauses of Inv cite their rules. From every state that satisfies it, not
only from runs. -/
def Obligations.StepKeepsInv : Prop :=
  ∀ s t : State, Inv s → step s = .next t → Inv t

/-- From every state with the invariant, a step answers a next state: nothing stops the engine. The three faults of the model are
of states that the rules exclude (notes/assumptions/13.md). -/
def Obligations.InvStepNeverStops : Prop :=
  ∀ s : State, Inv s → StepSafe s

/-- REMAIN plus the lengths of the accepted blocks is LENGTH at all times of a HELP7 file, in every state. 44_framing_tape.md R219
(c), R208, R216 (REMAIN cannot underflow; REMAIN = 0 finalizes the file). explen reads the current H7BLK, which the host may
rewrite in DONE and ERROR (10_state.md R67): that R219 (c) speaks of the H7BLK of the session is DEDUCED
(notes/assumptions/21.md). -/
def Obligations.StepKeepsHelp7Books : Prop :=
  ∀ s t : State, Inv s → Help7Books s → step s = .next t → t.cfg.h7blk = s.cfg.h7blk → Help7Books t

/-- raise Fatal: what taking a terminal error saves and where the engine goes. 60_exceptions.md R283. The meanings that raise call
this operation. -/
def Obligations.TerminalErrorEntry : Prop :=
  ∀ (s : State) (e : Fatal) (pos : Word), s.raiseFatal e pos =
    { s with
      ses.err.errcode := e.code
      ses.err.errst := s.st
      ses.err.errms := s.ses.mark.ms
      ses.err.errpos := pos
      st := .error
      evt := s.evt ||| 0x002 }

/-- event NonFatal: code, position, flag, and NBAD for the two disk flags. 60_exceptions.md R290. The rules that report an event
call this operation. -/
def Obligations.NonFatalEventEntry : Prop :=
  ∀ (s : State) (e : NonFatal) (pos : Word) (f : Flag), s.nonFatal e pos f =
    { s with
      ses.err.nfcode := e.code
      ses.err.nfpos := pos
      evt := s.evt ||| BitVec.twoPow 12 f.bit
      nbad := if f = .hdrbad ∨ f = .databad then BitVec.ofNat 8 (min (s.nbad.toNat + 1) 255) else s.nbad }

/-- irq is the level of the enabled flags, s_ready the gated READY, b_rdata after a read the register read. 60_exceptions.md R296;
10_state.md R21, R52; 46_commands.md R274; 70_reset_and_hazards.md R315. The model carries the read data to the next cycle in
its fields `rdata` and `rdValid`, the mark of the cycle after a read (DEDUCED and DESIGN CHOICE, notes/assumptions/7.md); in a
cycle with rst = 1 b_rdata is a free value (93_implementation_defined.md U15). -/
def Obligations.OutputPins : Prop :=
  ∀ (s : State) (c : PinCycle),
    (s.irq = true ↔ ∃ k : Fin 12, s.evt.getLsbD k.val = true ∧ s.ien.getLsbD k.val = true)
      ∧ (s.sReady c = true ↔ c.rst = false ∧ c.bWe = false ∧ c.bRe = false
        ∧ s.st ≠ .idle ∧ s.st ≠ .done ∧ s.st ≠ .error ∧ s.st ≠ .dDeliver)
      ∧ ∀ addr : Byte, c.rst = false → ∃ t : State, exec (.csrrd addr) s = .next t ∧ t.bRdata c = readAt addr s

/-- NOP changes no state. 46_commands.md R260. -/
def Obligations.NopChangesNothing : Prop :=
  ∀ s : State, exec .nop s = .next s

/-- START while idle clears the session, checks the configuration and selects the profile. 46_commands.md R261, R262;
60_exceptions.md R283. -/
def Obligations.StartEffect : Prop :=
  ∀ s : State, (s.st = .idle ∨ s.st = .done ∨ s.st = .error) →
    exec .start s = .next
      (if s.cfg.profile = 1 ∨ s.cfg.profile = 3 ∨ (s.cfg.profile = 0 ∧ s.cfg.h7en = true ∧ s.cfg.h7blk = 0) then
        { s with st := .error, ses := { Session.zero with err := ⟨10, .idle, .lead, 0, 0, 0⟩ }, evt := s.evt ||| 0x002 }
      else if s.cfg.profile = 0 then { s with st := .tFindPilot, ses := Session.zero }
      else { s with st := .dFindHdr, ses := Session.zero })

/-- ABORT clears the session in every state; TRKCLR clears the track bookkeeping while idle. 46_commands.md R261, R264 (ABORT),
R268 (TRKCLR). -/
def Obligations.AbortAndTrkclrEffect : Prop :=
  (∀ s : State, exec .abort s = .next { s with st := .idle, ses := Session.zero })
    ∧ ∀ s : State, (s.st = .idle ∨ s.st = .done ∨ s.st = .error) →
      exec .trkclr s = .next { s with sectOk := 0, rev := 0, nbad := 0 }

/-- NEXT in D_DELIVER finishes the track or resumes the search with a cleared window. 46_commands.md R266; 45_framing_disk.md
R248; 10_state.md R43. -/
def Obligations.NextEffect : Prop :=
  ∀ s : State, s.st = .dDeliver →
    exec .next s = .next
      (if s.ses.eosp = true ∨ (s.cfg.expect ≠ 0 ∧ s.sectOk &&& s.cfg.expect = s.cfg.expect) then
        { s with st := .done, evt := s.evt ||| 0x001 }
      else { s with st := .dFindHdr, ses.win := ⟨Vector.replicate 15 0, 0, 0⟩ })

/-- CKINIT selects and presets the checksum; CKBYTE feeds one byte. 43_checksum.md R183, R184. -/
def Obligations.ChecksumCommands : Prop :=
  ∀ s : State, (s.st = .idle ∨ s.st = .done ∨ s.st = .error) →
    (∀ alg : Bool, exec (.ckinit alg) s = .next { s with ckalg := alg, ck := if alg then 0xFFFF else 0 })
      ∧ ∀ b : Byte, exec (.ckbyte b) s = .next { s with ck := if s.ckalg then crcUpd s.ck b else sumUpd s.ck b }

/-- A refused command sets EVT.REFUSED and changes nothing else. 46_commands.md R257 (which command is refused where), R258 (what
a refusal does); 30_encoding.md R97 (a reserved op). That csrwr carries a reserved op is the model's choice, DEDUCED
(notes/assumptions/4.md). -/
def Obligations.RefusedCommand : Prop :=
  ∀ s : State,
    (s.st ≠ .idle → s.st ≠ .done → s.st ≠ .error →
        exec .start s = .next { s with evt := s.evt ||| 0x400 }
          ∧ exec .trkclr s = .next { s with evt := s.evt ||| 0x400 }
          ∧ (∀ alg, exec (.ckinit alg) s = .next { s with evt := s.evt ||| 0x400 })
          ∧ ∀ b, exec (.ckbyte b) s = .next { s with evt := s.evt ||| 0x400 })
      ∧ (s.st ≠ .dDeliver → exec .next s = .next { s with evt := s.evt ||| 0x400 })
      ∧ ∀ (addr : Byte) (data : Word), addr.extractLsb' 2 6 = 1 →
        data.extractLsb' 0 8 ∉ [0x00#8, 0x01#8, 0x02#8, 0x03#8, 0x04#8, 0x10#8, 0x11#8] →
        exec (.csrwr addr data) s = .next { s with evt := s.evt ||| 0x400 }

/-- A register read returns the register and changes no state but BUFADDR at BUFDATA. 10_state.md R66, R67 (f); 46_commands.md
R274. `readAt` is the value of 10_state.md R50 to R66 (see RegisterLayouts, StatusLayout); `rdata` and `rdValid` carry b_rdata
(notes/assumptions/7.md). -/
def Obligations.RegisterRead : Prop :=
  ∀ (s : State) (addr : Byte), exec (.csrrd addr) s = .next
    { s with
      rdata := readAt addr s
      rdValid := true
      bufaddr := if addr.extractLsb' 2 6 = 35 then s.bufaddr + 1 else s.bufaddr }

/-- STATUS carries its fields at the bits of its table. 10_state.md R52, R43. -/
def Obligations.StatusLayout : Prop :=
  ∀ s : State,
    (readAt 0x08 s).extractLsb' 0 6 = s.st.code ∧ (readAt 0x08 s).extractLsb' 6 2 = 0
      ∧ (readAt 0x08 s).extractLsb' 8 3 = s.ses.mark.ms.code ∧ (readAt 0x08 s).getLsbD 11 = s.ses.bits.bph
      ∧ (readAt 0x08 s).extractLsb' 12 4 = 0
      ∧ ((readAt 0x08 s).getLsbD 16 = true ↔ s.st ≠ .idle ∧ s.st ≠ .done ∧ s.st ≠ .error ∧ s.st ≠ .dDeliver)
      ∧ (readAt 0x08 s).getLsbD 17 = s.ses.rcd.isFinal ∧ (readAt 0x08 s).getLsbD 18 = s.ses.rcd.valid
      ∧ (readAt 0x08 s).getLsbD 19 = s.ses.rcd.notrailer
      ∧ ((readAt 0x08 s).getLsbD 20 = true ↔ s.cfg.expect ≠ 0 ∧ s.sectOk &&& s.cfg.expect = s.cfg.expect)
      ∧ (readAt 0x08 s).getLsbD 21 = s.ses.thr.calok ∧ (readAt 0x08 s).getLsbD 22 = s.ses.h7.h7act
      ∧ (readAt 0x08 s).getLsbD 23 = s.ses.eosp ∧ (readAt 0x08 s).extractLsb' 24 8 = 0

/-- Every read value of the register map but STATUS, field by field. 10_state.md R50, R51, R53 to R67. STATUS (R52) is
StatusLayout. -/
def Obligations.RegisterLayouts : Prop :=
  ∀ s : State,
    readAt 0x00 s = 0x424B0001 ∧ readAt 0x04 s = 0
      ∧ (readAt 0x0C s).toNat = s.cfg.profile.toNat + 4 * s.cfg.keepBad.toNat + 8 * s.cfg.h7en.toNat
      ∧ (readAt 0x10 s).toNat = s.cfg.coeff.toNat + 256 * s.cfg.maxk.toNat + 65536 * s.cfg.longk.toNat
        + 16777216 * s.cfg.drift.toNat
      ∧ (readAt 0x14 s).toNat = s.cfg.pilotMin.toNat + 65536 * s.cfg.lookmax.toNat
      ∧ (readAt 0x18 s).toNat = s.cfg.h7idx.toNat + 256 * s.cfg.h7val.toNat + 65536 * s.cfg.h7blk.toNat
      ∧ readAt 0x1C s = s.cfg.expect
      ∧ (readAt 0x20 s).toNat = s.ien.toNat ∧ (readAt 0x24 s).toNat = s.evt.toNat
      ∧ (readAt 0x28 s).toNat = s.ses.thr.unit.toNat ∧ readAt 0x2C s = s.ses.thr.cutoff ∧ readAt 0x30 s = s.ses.thr.maxlen
      ∧ readAt 0x34 s = s.ses.pos
      ∧ (readAt 0x38 s).toNat
        = s.ses.err.errcode.toNat + 256 * s.ses.err.errst.code.toNat + 65536 * s.ses.err.errms.code.toNat
      ∧ readAt 0x3C s = s.ses.err.errpos ∧ (readAt 0x40 s).toNat = s.ses.err.nfcode.toNat ∧ readAt 0x44 s = s.ses.err.nfpos
      ∧ (readAt 0x48 s).toNat = s.ses.rcd.startAddr.toNat + 65536 * s.ses.rcd.length.toNat
      ∧ (readAt 0x4C s).toNat = s.ses.rcd.rck.toNat + 65536 * s.ses.rcd.cck.toNat
      ∧ (∀ k j : Fin 4, (readAt (BitVec.ofNat 8 (0x50 + 4 * k.val)) s).extractLsb' (8 * j.val) 8
        = s.ses.rcd.name[4 * k.val + j.val])
      ∧ (readAt 0x60 s).toNat = s.ses.sec.track.toNat + 256 * s.ses.sec.side.toNat + 65536 * s.ses.sec.number.toNat
        + 16777216 * s.ses.sec.sizeCode.toNat
      ∧ (readAt 0x64 s).toNat = s.ses.sec.slen.toNat + 65536 * s.ses.sec.hdrCrcOk.toNat + 131072 * s.ses.sec.dataCrcOk.toNat
        + 262144 * s.ses.sec.sizeOk.toNat + 524288 * s.ses.sec.svalid.toNat
      ∧ (readAt 0x68 s).toNat = s.ses.sec.hcrcRd.toNat + 65536 * s.ses.sec.hcrcCk.toNat
      ∧ (readAt 0x6C s).toNat = s.ses.sec.dcrcRd.toNat + 65536 * s.ses.sec.dcrcCk.toNat
      ∧ readAt 0x70 s = s.sectOk
      ∧ (readAt 0x74 s).toNat = ((List.range 32).filter fun n => s.sectOk.getLsbD n).length + 256 * s.nbad.toNat
        + 65536 * s.rev.toNat
      ∧ (readAt 0x78 s).toNat = s.ck.toNat + 65536 * s.ckalg.toNat
      ∧ (readAt 0x7C s).toNat = s.ses.h7.remain.toNat
        + 65536 * ((List.range 256).filter fun n => s.ses.h7.seen.getLsbD n).length
      ∧ (readAt 0x80 s).toNat = s.ses.h7.bnum.toNat + 65536 * s.ses.h7.blen.toNat
      ∧ (readAt 0x84 s).toNat = s.ses.h7.owner.toNat + 65536 * s.ses.h7.ownset.toNat
      ∧ (readAt 0x88 s).toNat = s.bufaddr.toNat ∧ (readAt 0x8C s).toNat = (s.bufRead s.bufaddr.toNat).toNat
      ∧ (∀ addr : Byte, 0x90 ≤ addr.toNat → readAt addr s = 0)
      ∧ ∀ (word : BitVec 6) (low : BitVec 2), readAt (word ++ low) s = readAt (word ++ 0#2) s

/-- While idle, a configuration register takes its fields from the bits of the written word and reads back without its reserved
bits. 10_state.md R50, R53 to R57, R67 (a), (d). -/
def Obligations.ConfigurationWrite : Prop :=
  ∀ (s : State) (addr : Byte) (v : Word), (s.st = .idle ∨ s.st = .done ∨ s.st = .error) →
    let writes : ConfigRegs → Word → Prop := fun c mask =>
      exec (.csrwr addr v) s = .next { s with cfg := c }
        ∧ readAt addr { s with cfg := c } = v &&& mask
        ∧ ∀ q : Byte, 3 ≤ (q.extractLsb' 2 6).toNat → (q.extractLsb' 2 6).toNat ≤ 7 →
          q.extractLsb' 2 6 ≠ addr.extractLsb' 2 6 → readAt q { s with cfg := c } = readAt q s
    (addr.extractLsb' 2 6 = 3 → writes
        { s.cfg with profile := v.extractLsb' 0 2, keepBad := v.getLsbD 2, h7en := v.getLsbD 3 } 0x0000000F)
      ∧ (addr.extractLsb' 2 6 = 4 → writes
        { s.cfg with
          coeff := v.extractLsb' 0 8
          maxk := v.extractLsb' 8 8
          longk := v.extractLsb' 16 8
          drift := v.extractLsb' 24 8 } 0xFFFFFFFF)
      ∧ (addr.extractLsb' 2 6 = 5 → writes
        { s.cfg with pilotMin := v.extractLsb' 0 16, lookmax := v.extractLsb' 16 16 } 0xFFFFFFFF)
      ∧ (addr.extractLsb' 2 6 = 6 → writes
        { s.cfg with h7idx := v.extractLsb' 0 4, h7val := v.extractLsb' 8 8, h7blk := v.extractLsb' 16 16 } 0xFFFFFF0F)
      ∧ (addr.extractLsb' 2 6 = 7 → writes { s.cfg with expect := v } 0xFFFFFFFF)

/-- Writes to IEN, EVT, BUFADDR take effect in every state; locked writes are refused; other writes are ignored. 10_state.md R50
(the access kinds), R58, R66, R67 (a), (b). -/
def Obligations.RegisterWrites : Prop :=
  ∀ (s : State) (addr : Byte) (v : Word),
    (addr.extractLsb' 2 6 = 8 → exec (.csrwr addr v) s = .next { s with ien := v.extractLsb' 0 12 })
      ∧ (addr.extractLsb' 2 6 = 9 →
        exec (.csrwr addr v) s = .next { s with evt := s.evt &&& ~~~(v.extractLsb' 0 12) })
      ∧ (addr.extractLsb' 2 6 = 34 → exec (.csrwr addr v) s = .next { s with bufaddr := v.extractLsb' 0 16 })
      ∧ (3 ≤ (addr.extractLsb' 2 6).toNat → (addr.extractLsb' 2 6).toNat ≤ 7 →
        s.st ≠ .idle → s.st ≠ .done → s.st ≠ .error →
        exec (.csrwr addr v) s = .next { s with evt := s.evt ||| 0x400 })
      ∧ ((addr.extractLsb' 2 6).toNat ∉ [1, 3, 4, 5, 6, 7, 8, 9, 34] → exec (.csrwr addr v) s = .next s)

/-- A bus write of a listed command word to CMD does what the command does. 46_commands.md R256, R274. A csrwr of a listed command
word is an ill-formed term that the decoder never gives; that such a term has the meaning of its command is the model's
choice, DEDUCED (notes/assumptions/4.md). -/
def Obligations.CommandWriteIsTheCommand : Prop :=
  ∀ (s : State) (addr : Byte) (v : Word) (i : Instr), addr.extractLsb' 2 6 = 1 → decodeCommand v = .ok i →
    exec (.csrwr addr v) s = exec i s

/-- INDEX counts a revolution and sets EVT.INDEX, nothing else. 46_commands.md R272. -/
def Obligations.IndexEffect : Prop :=
  ∀ s : State, s.ready = true →
    exec .index s = .next { s with rev := BitVec.ofNat 8 (min (s.rev.toNat + 1) 255), evt := s.evt ||| 0x800 }

/-- RSV raises E_TOKEN at POS; a zero period raises E_ZERO at its index and is counted. 46_commands.md R273 (RSV), R271 (the zero
period). `raiseFatal` is stated by TerminalErrorEntry. -/
def Obligations.ReservedTokenAndZeroPeriod : Prop :=
  ∀ s : State, s.ready = true →
    exec .rsv s = .next (s.raiseFatal .token s.ses.pos)
      ∧ exec (.period 0) s = .next (State.raiseFatal { s with ses.pos := s.ses.pos + 1 } .zero s.ses.pos)

/-- EOS by control state: terminal errors, the missing trailer, the end of a disk capture. 46_commands.md R270; 40_calibrator.md
R128; 44_framing_tape.md R205, R206, R218; 45_framing_disk.md R245, R246. `partialDelivery` is stated by BadDiskPeriod. -/
def Obligations.EosEffect : Prop :=
  ∀ s : State,
    (s.st = .tFindPilot → exec .eos s = .next (s.raiseFatal .pilot s.ses.pos))
      ∧ (s.st = .tEndTrailer →
        exec .eos s = .next { s with st := .done, ses.rcd.notrailer := true, evt := s.evt ||| 0x001 })
      ∧ (s.st.isTape = true → s.st ≠ .tFindPilot → s.st ≠ .tEndTrailer →
        exec .eos s = .next (s.raiseFatal .eos s.ses.pos))
      ∧ (s.st = .dFindHdr ∨ s.st = .dReadHdr ∨ s.st = .dFindData → exec .eos s = .next
        (if s.ses.thr.calok then { s with st := .done, evt := s.evt ||| 0x001 } else s.raiseFatal .nomark s.ses.pos))
      ∧ (s.st = .dReadData → exec .eos s = .next
        (if s.cfg.keepBad = true ∧ s.ses.byteidx ≠ 0 then
          partialDelivery { s.nonFatal .dataEos s.ses.pos .databad with ses.eosp := true }
        else
          { s.nonFatal .dataEos s.ses.pos .databad with
            st := .done, evt := (s.nonFatal .dataEos s.ses.pos .databad).evt ||| 0x001 }))

/-- PERIOD in T_FIND_PILOT: seed, calibrate, accumulate or restart, tested in that order. 40_calibrator.md R121 to R126. -/
def Obligations.PilotPeriod : Prop :=
  ∀ (s : State) (p : Half), s.st = .tFindPilot → p ≠ 0 →
    let s1 : State := { s with ses.pos := s.ses.pos + 1 }
    let sum := s.ses.pilot.sum.toNat
    let cnt := s.ses.pilot.cnt.toNat
    let unit : BitVec 24 := BitVec.ofNat 24 (sum * 256 / cnt)
    exec (.period p) s = .next
      (if cnt = 0 then { s1 with ses.pilot := ⟨p.zeroExtend 32, 1⟩ }
      else if s.cfg.longk.toNat * sum < p.toNat * cnt * 16 ∧ s.cfg.pilotMin.toNat ≤ cnt then
        { s1 with
          st := .tPilotFound
          ses.thr := ⟨unit, BitVec.ofNat 32 (unit.toNat * s.cfg.coeff.toNat / 16),
            BitVec.ofNat 32 (unit.toNat * s.cfg.maxk.toNat / 16), true⟩
          evt := s.evt ||| 0x010 }
      else if ((p.toNat * cnt : Int) - sum).natAbs * 16 ≤ s.cfg.drift.toNat * sum then
        if cnt = 65535 then s1
        else { s1 with ses.pilot := ⟨s.ses.pilot.sum + p.zeroExtend 32, s.ses.pilot.cnt + 1⟩ }
      else { s1 with ses.pilot := ⟨p.zeroExtend 32, 1⟩ })

/-- A uniform pilot of n periods calibrates UNIT = 256 u exactly iff n reaches PILOT_MIN. 40_calibrator.md R132 (c), (d). The
bound 16 + DRIFT <= LONGK is the model's reading, DEDUCED (notes/assumptions/20.md): with LONGK below 16 the uniform period
itself is a terminal (R124), and with DRIFT above LONGK - 16 a long period may be within the tolerance (R123). -/
def Obligations.UniformPilot : Prop :=
  ∀ (s : State) (u t : Half) (n : Nat), s.st = .tFindPilot → s.ses.pilot = ⟨0, 0⟩ → u ≠ 0 →
    16 + s.cfg.drift.toNat ≤ s.cfg.longk.toNat → s.cfg.longk.toNat * u.toNat < 16 * t.toNat →
    (1 ≤ n → s.cfg.pilotMin.toNat ≤ n →
        execPeriods (List.replicate n u ++ [t]) s = .next
          { s with
            st := .tPilotFound
            ses.pos := s.ses.pos + BitVec.ofNat 32 (n + 1)
            ses.pilot := ⟨BitVec.ofNat 32 (min n 65535 * u.toNat), BitVec.ofNat 16 (min n 65535)⟩
            ses.thr := ⟨BitVec.ofNat 24 (256 * u.toNat), BitVec.ofNat 32 (256 * u.toNat * s.cfg.coeff.toNat / 16),
              BitVec.ofNat 32 (256 * u.toNat * s.cfg.maxk.toNat / 16), true⟩
            evt := s.evt ||| 0x010 })
      ∧ (n < s.cfg.pilotMin.toNat →
        execPeriods (List.replicate n u ++ [t]) s = .next
          { s with ses.pos := s.ses.pos + BitVec.ofNat 32 (n + 1), ses.pilot := ⟨t.zeroExtend 32, 1⟩ })

/-- The two periods after the pilot: sync 1 and sync 0. 40_calibrator.md R130, R131; 42_demod.md R156. -/
def Obligations.PilotTail : Prop :=
  ∀ (s : State) (p : Half), p ≠ 0 →
    let s1 : State := { s with ses.pos := s.ses.pos + 1 }
    (s.st = .tPilotFound → exec (.period p) s = .next
        (if p.toNat * 256 ≤ s.ses.thr.cutoff.toNat then s1.raiseFatal .msync s.ses.pos
        else if s.ses.thr.maxlen.toNat < p.toNat * 256 then s1.raiseFatal .bitlong s.ses.pos
        else { s1 with st := .tPilotFound2 }))
      ∧ (s.st = .tPilotFound2 → exec (.period p) s = .next
        (if s.ses.thr.cutoff.toNat ≤ p.toNat * 256 then s1.raiseFatal .msync s.ses.pos
        else { s1 with st := .tHdrMarker, ses.mark.ms := .lead, ses.mark.mcnt := 0 }))

/-- PERIOD in the strict tape marker, phase by phase. 41_marker.md R137 to R143; 42_demod.md R163; 44_framing_tape.md R198, R201.
MCNT is at most 8 in a run (Inv); at 255 it stops (00_scope.md R11). -/
def Obligations.StrictMarkerPeriod : Prop :=
  ∀ (s : State) (p : Half), (s.st = .tHdrMarker ∨ s.st = .tBodyMarker) → p ≠ 0 → s.ses.mark.mcnt ≠ 255 →
    let s1 : State := { s with ses.pos := s.ses.pos + 1 }
    let one := s.ses.thr.cutoff.toNat < p.toNat * 256
    exec (.period p) s = .next
      (match s.ses.mark.ms with
      | .lead =>
        if one then s1.raiseFatal .mlead s.ses.pos else { s1 with ses.mark.mcnt := 1, ses.mark.ms := .body }
      | .body =>
        if one then s1.raiseFatal .mbody s.ses.pos
        else { s1 with
          ses.mark.mcnt := s.ses.mark.mcnt + 1
          ses.mark.ms := if s.ses.mark.mcnt = 7 then .final else .body }
      | .final => if one then { s1 with ses.mark.ms := .sync1 } else s1.raiseFatal .mfinal s.ses.pos
      | .sync1 =>
        if one then
          if s.ses.thr.maxlen.toNat < p.toNat * 256 then s1.raiseFatal .bitlong s.ses.pos
          else { s1 with ses.mark.ms := .sync0 }
        else s1.raiseFatal .msync s.ses.pos
      | .sync0 =>
        if s.ses.thr.cutoff.toNat ≤ p.toNat * 256 then s1.raiseFatal .msync s.ses.pos
        else if s.st = .tHdrMarker then { s1 with st := .tReadHdr, ses.bits := ⟨0, 0, false⟩, ses.byteidx := 0 }
        else { s1 with
          st := if s.ses.rcd.length = 0 then .tChecksum else .tReadData
          ck := 0
          ses.bits := ⟨0, 0, false⟩
          ses.byteidx := 0 })

/-- Eight zero periods, a long terminal, sync 1 and sync 0 complete the header marker. 30_encoding.md R103; 41_marker.md R137 to
R143; 44_framing_tape.md R198. -/
def Obligations.StrictMarkerAccepted : Prop :=
  ∀ (s : State) (zs : List Half) (a b c : Half), s.st = .tHdrMarker → s.ses.mark.ms = .lead → zs.length = 8 →
    (∀ z ∈ zs, z ≠ 0 ∧ z.toNat * 256 ≤ s.ses.thr.cutoff.toNat) → s.ses.thr.cutoff.toNat < a.toNat * 256 →
    s.ses.thr.cutoff.toNat < b.toNat * 256 → b.toNat * 256 ≤ s.ses.thr.maxlen.toNat →
    c ≠ 0 → c.toNat * 256 < s.ses.thr.cutoff.toNat →
    execPeriods (zs ++ [a, b, c]) s = .next
      { s with
        st := .tReadHdr
        ses.pos := s.ses.pos + 11
        ses.mark.ms := .sync0
        ses.mark.mcnt := 8
        ses.bits := ⟨0, 0, false⟩
        ses.byteidx := 0 }

/-- PERIOD in H7_SEEK and in T_END_TRAILER: no mismatch is an error. 41_marker.md R144, R145; 44_framing_tape.md R204, R210. Both
modes use the phases M_LEAD, M_SYNC1, M_SYNC0 only. -/
def Obligations.SeekAndTrailerPeriod : Prop :=
  ∀ (s : State) (p : Half), p ≠ 0 → s.ses.mark.ms ≠ .body → s.ses.mark.ms ≠ .final →
    let s1 : State := { s with ses.pos := s.ses.pos + 1 }
    let one := s.ses.thr.cutoff.toNat < p.toNat * 256
    (s.st = .h7Seek → exec (.period p) s = .next
        (if s.ses.mark.ms = .lead then
          if one then
            if 8 ≤ s.ses.mark.zrun.toNat then { s1 with ses.mark.ms := .sync1 } else { s1 with ses.mark.zrun := 0 }
          else { s1 with ses.mark.zrun := BitVec.ofNat 8 (min (s.ses.mark.zrun.toNat + 1) 255) }
        else if s.ses.mark.ms = .sync1 then
          if one ∧ p.toNat * 256 ≤ s.ses.thr.maxlen.toNat then { s1 with ses.mark.ms := .sync0 }
          else { s1 with ses.mark.ms := .lead, ses.mark.zrun := if one then 0 else 1 }
        else if p.toNat * 256 < s.ses.thr.cutoff.toNat then
          { s1 with st := .h7ReadBhdr, ck := 0, ses.bits := ⟨0, 0, false⟩, ses.byteidx := 0 }
        else { s1 with ses.mark.ms := .lead, ses.mark.zrun := 0 }))
      ∧ (s.st = .tEndTrailer → exec (.period p) s = .next
        (if s.ses.mark.ms = .lead then
          if one then { s1 with ses.mark.ms := .sync1 }
          else { s1 with ses.mark.mcnt := BitVec.ofNat 8 (min (s.ses.mark.mcnt.toNat + 1) 255) }
        else if s.ses.mark.ms = .sync1 then { s1 with ses.mark.ms := .sync0 }
        else { s1 with st := .done, evt := s.evt ||| 0x001 }))

/-- PERIOD in a byte-reading tape state: data period, sync period, completed byte, violation. 42_demod.md R158 to R162;
44_framing_tape.md R211. The delivered byte's rules are HeaderByte, OrdinaryFileBytes, BlockHeaderByte, BlockBodyByte,
BlockChecksumByte. -/
def Obligations.TapeBitCell : Prop :=
  ∀ (s : State) (p : Half), s.st.isTapeByte = true → p ≠ 0 →
    let s1 : State := { s with ses.pos := s.ses.pos + 1 }
    let violation : Fatal → State := fun e =>
      if s.st.isHelp7 then
        { s1.nonFatal .h7Period s.ses.pos .h7fail with st := .h7Seek, ses.mark.ms := .lead, ses.mark.zrun := 0 }
      else s1.raiseFatal e s.ses.pos
    (s.ses.bits.bph = false → exec (.period p) s = .next
        (if s.ses.thr.maxlen.toNat < p.toNat * 256 then violation .bitlong
        else { s1 with
          ses.bits.shr :=
            (s.ses.bits.shr >>> 1) ||| (if s.ses.thr.cutoff.toNat < p.toNat * 256 then 0x80 else 0)
          ses.bits.bph := true }))
      ∧ (s.ses.bits.bph = true → exec (.period p) s =
        if s.ses.thr.cutoff.toNat ≤ p.toNat * 256 then .next (violation .synclong)
        else if s.ses.bits.bitcnt = 7 then
          deliverTapeByte s.ses.bits.shr s.ses.pos { s1 with ses.bits.bph := false, ses.bits.bitcnt := 0 }
        else .next { s1 with ses.bits.bph := false, ses.bits.bitcnt := s.ses.bits.bitcnt + 1 })

/-- The sixteen periods of an encoded byte deliver exactly that byte. 42_demod.md R171, 30_encoding.md R113. The largest u is the
one whose 2u is still a period (30_encoding.md R91). -/
def Obligations.TapeByteRoundTrip : Prop :=
  ∀ (s : State) (u : Half) (v : Byte), s.st.isTapeByte = true → s.ses.bits.bph = false → s.ses.bits.bitcnt = 0 →
    1 ≤ u.toNat → u.toNat ≤ 32767 → s.ses.thr.cutoff.toNat = 384 * u.toNat → s.ses.thr.maxlen.toNat = 768 * u.toNat →
    execPeriods (tapeByte u v) s =
      deliverTapeByte v (s.ses.pos + 15) { s with ses.pos := s.ses.pos + 16, ses.bits := ⟨v, 0, false⟩ }

/-- A header byte is stored; the twentieth latches the record and starts the body marker or HELP7. 44_framing_tape.md R199, R207,
R209; 20_memory.md R73. START admits H7EN = 1 in TAPE only with H7BLK not 0 (46_commands.md R262). -/
def Obligations.HeaderByte : Prop :=
  ∀ (s : State) (b : Byte) (idx : Word), (s.cfg.h7en = true → s.cfg.h7blk ≠ 0) →
    (s.ses.byteidx.toNat < 19 → deliverHeader b idx s = .next
        { s with ses.hb := s.ses.hb.setIfInBounds s.ses.byteidx.toNat b, ses.byteidx := s.ses.byteidx + 1 })
      ∧ (s.ses.byteidx = 19 →
        let hb := s.ses.hb.setIfInBounds 19 b
        let name : Vector Byte 16 := Vector.ofFn fun i => hb[4 + i.val]
        let s1 : State := { s with
          ses.hb := hb
          ses.byteidx := 20
          ses.rcd.startAddr := hb[1] ++ hb[0]
          ses.rcd.length := hb[3] ++ hb[2]
          ses.rcd.name := name }
        let length := hb[2].toNat + 256 * hb[3].toNat
        let nb := (length + s.cfg.h7blk.toNat - 1) / s.cfg.h7blk.toNat
        deliverHeader b idx s = .next
          (if s.cfg.h7en = true ∧ name[s.cfg.h7idx.toNat] = s.cfg.h7val then
            if nb = 0 ∨ 256 < nb then
              State.raiseFatal { s1 with ses.h7.h7act := true, ses.h7.remain := hb[3] ++ hb[2] } .h7geom idx
            else
              { s1 with
                st := .h7Seek
                ses.h7.h7act := true
                ses.h7.remain := hb[3] ++ hb[2]
                ses.h7.nb := BitVec.ofNat 9 nb
                ses.mark.ms := .lead
                ses.mark.zrun := 0 }
          else { s1 with st := .tBodyMarker, ses.mark.ms := .lead, ses.mark.mcnt := 0 }))

/-- Body bytes go to BUF in stream order and into the sum; the checksum bytes finalize the record. 44_framing_tape.md R202, R203;
20_memory.md R72. -/
def Obligations.OrdinaryFileBytes : Prop :=
  ∀ (s : State) (b : Byte) (idx : Word),
    (∃ t : State, deliverData b idx s = .next t ∧ t.bufRead s.ses.byteidx.toNat = b
        ∧ (∀ a : Nat, a ≠ s.ses.byteidx.toNat → t.bufRead a = s.bufRead a)
        ∧ { t with buf := s.buf } = { s with
          ck := sumUpd s.ck b
          st := if s.ses.byteidx + 1 = s.ses.rcd.length then .tChecksum else s.st
          ses.byteidx := if s.ses.byteidx + 1 = s.ses.rcd.length then 0 else s.ses.byteidx + 1 })
      ∧ (s.ses.byteidx = 0 →
        deliverChecksum b idx s = .next { s with ses.rcd.rck := b.zeroExtend 16, ses.byteidx := 1 })
      ∧ (s.ses.byteidx ≠ 0 →
        let rck : Half := b ++ s.ses.rcd.rck.extractLsb' 0 8
        deliverChecksum b idx s = .next
          { s with
            st := .tEndTrailer
            ses.rcd.rck := rck
            ses.rcd.cck := s.ck
            ses.rcd.isFinal := true
            ses.rcd.valid := decide (rck = s.ck)
            ses.mark.ms := .lead
            ses.mark.mcnt := 0
            evt := s.evt ||| 0x008 })

/-- A HELP7 block header byte; the sixth accepts the block, rejects it or ignores a re-delivery. 44_framing_tape.md R212, R213,
R208. -/
def Obligations.BlockHeaderByte : Prop :=
  ∀ (s : State) (b : Byte) (idx : Word), s.ses.h7.nb.toNat ≤ 256 →
    (s.ses.byteidx.toNat < 5 → deliverBlockHeader b idx s = .next
        { s with
          ses.hb := s.ses.hb.setIfInBounds s.ses.byteidx.toNat b
          ck := sumUpd s.ck b
          ses.byteidx := s.ses.byteidx + 1 })
      ∧ (s.ses.byteidx = 5 →
        let bnum : Half := s.ses.hb[1] ++ s.ses.hb[0]
        let blen : Half := s.ses.hb[3] ++ s.ses.hb[2]
        let bown : Half := b ++ s.ses.hb[4]
        let s1 : State := { s with
          ses.hb := s.ses.hb.setIfInBounds 5 b
          ck := sumUpd s.ck b
          ses.byteidx := 6
          ses.h7.bnum := bnum
          ses.h7.blen := blen
          ses.h7.bown := bown }
        let expected := if bnum.toNat < s.ses.h7.nb.toNat then s.cfg.h7blk.toNat
          else s.ses.rcd.length.toNat - (s.ses.h7.nb.toNat - 1) * s.cfg.h7blk.toNat
        deliverBlockHeader b idx s = .next
          (if ¬(1 ≤ bnum.toNat ∧ bnum.toNat ≤ s.ses.h7.nb.toNat ∧ blen.toNat = expected
              ∧ (s.ses.h7.ownset = true → bown = s.ses.h7.owner)) then
            { s1.nonFatal .h7Hdr idx .h7fail with st := .h7Seek, ses.mark.ms := .lead, ses.mark.zrun := 0 }
          else if s.ses.h7.seen.getLsbD (bnum.toNat - 1) then
            { s1.nonFatal .h7Dup idx .h7dup with st := .h7Seek, ses.mark.ms := .lead, ses.mark.zrun := 0 }
          else { s1 with st := .h7ReadBody, ses.byteidx := 0 }))

/-- A HELP7 body byte is spliced at (BNUM - 1) * H7BLK + BYTEIDX. 44_framing_tape.md R214; 20_memory.md R72. -/
def Obligations.BlockBodyByte : Prop :=
  ∀ (s : State) (b : Byte) (idx : Word),
    (s.ses.h7.bnum.toNat - 1) * s.cfg.h7blk.toNat + s.ses.byteidx.toNat < 65536 →
    ∃ t : State, deliverBlockBody b idx s = .next t
      ∧ t.bufRead ((s.ses.h7.bnum.toNat - 1) * s.cfg.h7blk.toNat + s.ses.byteidx.toNat) = b
      ∧ (∀ a : Nat, a ≠ (s.ses.h7.bnum.toNat - 1) * s.cfg.h7blk.toNat + s.ses.byteidx.toNat → t.bufRead a = s.bufRead a)
      ∧ { t with buf := s.buf } = { s with
        ck := sumUpd s.ck b
        st := if s.ses.byteidx + 1 = s.ses.h7.blen then .h7Bcksum else s.st
        ses.byteidx := if s.ses.byteidx + 1 = s.ses.h7.blen then 0 else s.ses.byteidx + 1 }

/-- A HELP7 block checksum: mismatch discards the block, a match splices it, the last one finalizes the file. 44_framing_tape.md
R215 to R217. -/
def Obligations.BlockChecksumByte : Prop :=
  ∀ (s : State) (b : Byte) (idx : Word), 1 ≤ s.ses.h7.bnum.toNat → s.ses.h7.bnum.toNat ≤ 256 →
    (s.ses.byteidx = 0 →
        deliverBlockChecksum b idx s = .next { s with ses.h7.bck := b.zeroExtend 16, ses.byteidx := 1 })
      ∧ (s.ses.byteidx ≠ 0 →
        let bck : Half := b ++ s.ses.h7.bck.extractLsb' 0 8
        let owner := if s.ses.h7.ownset then s.ses.h7.owner else s.ses.h7.bown
        let sum := tapeChecksum ((List.range s.ses.rcd.length.toNat).map s.bufRead)
        let s2 : State := { s with
          ses.h7.bck := bck
          ses.h7.seen := s.ses.h7.seen ||| BitVec.twoPow 256 (s.ses.h7.bnum.toNat - 1)
          ses.h7.remain := s.ses.h7.remain - s.ses.h7.blen
          ses.h7.owner := owner
          ses.h7.ownset := true
          evt := s.evt ||| 0x080 }
        deliverBlockChecksum b idx s = .next
          (if bck ≠ s.ck then
            { State.nonFatal { s with ses.h7.bck := bck } .h7Cksum idx .h7fail with
              st := .h7Seek, ses.mark.ms := .lead, ses.mark.zrun := 0 }
          else if s.ses.h7.remain - s.ses.h7.blen = 0 then
            { s2 with
              st := .done
              ck := sum
              ses.rcd.rck := owner
              ses.rcd.cck := sum
              ses.rcd.isFinal := true
              ses.rcd.valid := decide (owner = sum)
              evt := s.evt ||| 0x089 }
          else { s2 with st := .h7Seek, ses.mark.ms := .lead, ses.mark.zrun := 0 }))

/-- PERIOD in D_FIND_HDR and D_FIND_DATA: the window shifts; a match calibrates and starts the reader; the lookahead is bounded.
41_marker.md R147, R150 to R152. `windowMatches` is stated by WindowMatch. -/
def Obligations.FindMarkerPeriod : Prop :=
  ∀ (s : State) (p : Half), (s.st = .dFindHdr ∨ s.st = .dFindData) → p ≠ 0 →
    let win : Window :=
      ⟨Vector.ofFn fun i : Fin 15 => if h : i.val < 14 then s.ses.win.w[i.val + 1] else p,
        if s.ses.win.wcnt = 15 then 15 else s.ses.win.wcnt + 1,
        s.ses.win.wsum - (s.ses.win.w[0]).zeroExtend 20 + p.zeroExtend 20⟩
    let unit : BitVec 24 := BitVec.ofNat 24 (win.wsum.toNat * 256 / 24)
    let look : Half :=
      if s.st = .dFindData then BitVec.ofNat 16 (min (s.ses.look.toNat + 1) 65535) else s.ses.look
    let s1 : State := { s with ses.pos := s.ses.pos + 1, ses.look := look, ses.win := win }
    exec (.period p) s = .next
      (if windowMatches win then
        { s1 with
          st := if s.st = .dFindHdr then .dReadHdr else .dReadData
          ses.thr := ⟨unit, BitVec.ofNat 32 (unit.toNat * 5 / 4), BitVec.ofNat 32 (unit.toNat * 9 / 4), true⟩
          ck := 0xCDB4
          ses.rawb := ⟨1, 2⟩
          ses.byteidx := 0
          ses.win := ⟨Vector.replicate 15 0, 0, 0⟩
          evt := s.evt ||| 0x010 }
      else if s.st = .dFindData ∧ look = s.cfg.lookmax then
        { s1.nonFatal .dataTimeout s.ses.pos .databad with st := .dFindHdr }
      else s1)

/-- The window matches iff it is full and every interval is in its bucket of the pattern. 41_marker.md R147 to R149. -/
def Obligations.WindowMatch : Prop :=
  ∀ v : Window, windowMatches v = true ↔ v.wcnt = 15 ∧ ∀ i : Fin 15,
    3 * v.wsum.toNat ≤ 96 * v.w[i].toNat ∧ 96 * v.w[i].toNat ≤ 9 * v.wsum.toNat
      ∧ (i.val % 5 = 0 ∨ i.val % 5 = 2 → 7 * v.wsum.toNat ≤ 96 * v.w[i].toNat)
      ∧ (i.val % 5 = 1 ∨ i.val % 5 = 3 → 5 * v.wsum.toNat ≤ 96 * v.w[i].toNat ∧ 96 * v.w[i].toNat < 7 * v.wsum.toNat)
      ∧ (i.val % 5 = 4 → 96 * v.w[i].toNat < 5 * v.wsum.toNat)

/-- The exact disk marker at every half-cell h matches and makes UNIT = 512 h. 41_marker.md R155 (c), (d). The largest h is the
one whose 4h is still a period (30_encoding.md R91). -/
def Obligations.ExactMarkerCalibrates : Prop :=
  ∀ (s : State) (h : Half), s.st = .dFindHdr → s.ses.win = ⟨Vector.replicate 15 0, 0, 0⟩ → 1 ≤ h.toNat → h.toNat ≤ 16383 →
    execPeriods (diskMarker h) s = .next
      { s with
        st := .dReadHdr
        ses.pos := s.ses.pos + 15
        ses.thr := ⟨BitVec.ofNat 24 (512 * h.toNat), BitVec.ofNat 32 (640 * h.toNat), BitVec.ofNat 32 (1152 * h.toNat), true⟩
        ck := 0xCDB4
        ses.rawb := ⟨1, 2⟩
        ses.byteidx := 0
        evt := s.evt ||| 0x010 }

/-- A legal interval pushes its raw bits; the sixteenth completes a byte, the rest carry over. 42_demod.md R164 to R168. The
delivered byte's rules are SectorHeaderByte and SectorDataByte. -/
def Obligations.DiskInterval : Prop :=
  ∀ (s : State) (p : Half), (s.st = .dReadHdr ∨ s.st = .dReadData) → p ≠ 0 →
    3 * s.ses.thr.unit.toNat ≤ 1024 * p.toNat → 1024 * p.toNat ≤ 9 * s.ses.thr.unit.toNat → s.ses.rawb.rawcnt.toNat ≤ 15 →
    let n := halfCells s.ses.thr.unit p
    let s1 : State := { s with ses.pos := s.ses.pos + 1 }
    (s.ses.rawb.rawcnt.toNat + n < 16 → exec (.period p) s = .next
        { s1 with ses.rawb := ⟨(s.ses.rawb.raw <<< n) ||| 1, BitVec.ofNat 5 (s.ses.rawb.rawcnt.toNat + n)⟩ })
      ∧ (16 ≤ s.ses.rawb.rawcnt.toNat + n →
        let k := 16 - s.ses.rawb.rawcnt.toNat
        let raw : Half := (s.ses.rawb.raw <<< k) ||| (if k = n then 1 else 0)
        ∃ b : Byte, (∀ j : Fin 8, b.getLsbD j.val = raw.getLsbD (2 * j.val))
          ∧ exec (.period p) s = .next
            (let s2 := deliverDiskByte b s.ses.pos { s1 with ses.rawb := ⟨raw, 0⟩ }
            if s2.st = s.st ∧ k < n then
              { s2 with ses.rawb := ⟨(s2.ses.rawb.raw <<< (n - k)) ||| 1, BitVec.ofNat 5 (n - k)⟩ }
            else s2))

/-- A period outside 0.75 to 2.25 units is never fatal: header dropped, data dropped or delivered in part. 42_demod.md R169;
45_framing_disk.md R233, R242, R244. -/
def Obligations.BadDiskPeriod : Prop :=
  ∀ (s : State) (p : Half), p ≠ 0 →
    (1024 * p.toNat < 3 * s.ses.thr.unit.toNat ∨ 9 * s.ses.thr.unit.toNat < 1024 * p.toNat) →
    let s1 : State := { s with ses.pos := s.ses.pos + 1 }
    let bad := s1.nonFatal .dataPeriod s.ses.pos .databad
    let slen : BitVec 11 := BitVec.ofNat 11 (min (s.ses.byteidx.toNat - 1) s.ses.sec.size.toNat)
    (s.st = .dReadHdr → exec (.period p) s = .next
        { s1.nonFatal .hdrPeriod s.ses.pos .hdrbad with st := .dFindHdr, ses.win := ⟨Vector.replicate 15 0, 0, 0⟩ })
      ∧ (s.st = .dReadData → exec (.period p) s = .next
        (if s.cfg.keepBad = true ∧ s.ses.byteidx ≠ 0 then
          { bad with
            st := .dDeliver
            ses.sec.slen := slen
            ses.sec.sizeOk := decide (slen = s.ses.sec.size)
            ses.sec.dataCrcOk := false
            ses.sec.svalid := false
            ses.sec.dcrcRd := 0
            ses.sec.dcrcCk := s.ck
            evt := bad.evt ||| 0x004 }
        else { bad with st := .dFindHdr, ses.win := ⟨Vector.replicate 15 0, 0, 0⟩ }))

/-- The seven bytes of a sector header: mark, fields, CRC and size code. 45_framing_disk.md R231, R232, R235, R236; 30_encoding.md
R111. -/
def Obligations.SectorHeaderByte : Prop :=
  ∀ (s : State) (b : Byte) (idx : Word),
    let search : State → State := fun t => { t with st := .dFindHdr, ses.win := ⟨Vector.replicate 15 0, 0, 0⟩ }
    let fed : State := { s with ck := crcUpd s.ck b, ses.byteidx := s.ses.byteidx + 1 }
    (s.ses.byteidx = 0 → deliverSectorHeader b idx s =
        if b = 0xFE then fed else search (s.nonFatal .hdrMagic idx .hdrbad))
      ∧ (s.ses.byteidx = 1 → deliverSectorHeader b idx s = { fed with ses.sec.track := b })
      ∧ (s.ses.byteidx = 2 → deliverSectorHeader b idx s = { fed with ses.sec.side := b })
      ∧ (s.ses.byteidx = 3 → deliverSectorHeader b idx s = { fed with ses.sec.number := b })
      ∧ (s.ses.byteidx = 4 → deliverSectorHeader b idx s = { fed with ses.sec.sizeCode := b })
      ∧ (s.ses.byteidx = 5 → deliverSectorHeader b idx s = { s with ses.sec.hcrcRd := b ++ 0#8, ses.byteidx := 6 })
      ∧ (s.ses.byteidx = 6 →
        let rd : Half := s.ses.sec.hcrcRd.extractLsb' 8 8 ++ b
        let size : BitVec 11 :=
          if s.ses.sec.sizeCode = 1 then 256 else if s.ses.sec.sizeCode = 2 then 512
          else if s.ses.sec.sizeCode = 3 then 1024 else 0
        let s1 : State := { s with
          ses.sec.hcrcRd := rd
          ses.sec.hcrcCk := s.ck
          ses.sec.hdrCrcOk := decide (rd = s.ck)
          ses.sec.size := size }
        let s2 := if rd = s.ck then s1 else s1.nonFatal .hdrCrc idx .hdrbad
        deliverSectorHeader b idx s =
          if rd ≠ s.ck ∧ s.cfg.keepBad = false then search s2
          else if size = 0 then search (s2.nonFatal .hdrSize idx .hdrbad)
          else { s2 with st := .dFindData, ses.look := 0, ses.win := ⟨Vector.replicate 15 0, 0, 0⟩ })

/-- The bytes of a data field: mark, payload into BUF, CRC, delivery. 45_framing_disk.md R237, R238, R240, R241, R243, R250. -/
def Obligations.SectorDataByte : Prop :=
  ∀ (s : State) (b : Byte) (idx : Word),
    let search : State → State := fun t => { t with st := .dFindHdr, ses.win := ⟨Vector.replicate 15 0, 0, 0⟩ }
    (s.ses.byteidx = 0 → deliverSectorData b idx s =
        if b = 0xFB then { s with ck := crcUpd s.ck b, ses.byteidx := 1 }
        else search (s.nonFatal .dataMagic idx .databad))
      ∧ (1 ≤ s.ses.byteidx.toNat → s.ses.byteidx.toNat ≤ s.ses.sec.size.toNat →
        (deliverSectorData b idx s).bufRead (s.ses.byteidx.toNat - 1) = b
          ∧ (∀ a : Nat, a ≠ s.ses.byteidx.toNat - 1 → (deliverSectorData b idx s).bufRead a = s.bufRead a)
          ∧ { deliverSectorData b idx s with buf := s.buf }
            = { s with ck := crcUpd s.ck b, ses.byteidx := s.ses.byteidx + 1 })
      ∧ (s.ses.byteidx.toNat = s.ses.sec.size.toNat + 1 → deliverSectorData b idx s =
        { s with ses.sec.dcrcRd := b ++ 0#8, ses.byteidx := s.ses.byteidx + 1 })
      ∧ (s.ses.byteidx.toNat = s.ses.sec.size.toNat + 2 →
        let rd : Half := s.ses.sec.dcrcRd.extractLsb' 8 8 ++ b
        let valid := s.ses.sec.hdrCrcOk && decide (rd = s.ck)
        let s1 : State := { s with
          ses.sec.dcrcRd := rd
          ses.sec.dcrcCk := s.ck
          ses.sec.dataCrcOk := decide (rd = s.ck)
          ses.sec.sizeOk := true
          ses.sec.slen := s.ses.sec.size
          ses.sec.svalid := valid
          sectOk := if valid = true ∧ s.ses.sec.number.toNat < 32 then
            s.sectOk ||| BitVec.twoPow 32 s.ses.sec.number.toNat else s.sectOk }
        let delivered : State := { s1 with st := .dDeliver, evt := s.evt ||| 0x004 }
        deliverSectorData b idx s =
          if valid = true ∨ s.cfg.keepBad = true then
            if rd = s.ck then delivered else delivered.nonFatal .dataCrc idx .databad
          else search (s1.nonFatal .dataCrc idx .databad))

/-- No operation clears an event flag, except a write of 1 to its bit of EVT. 10_state.md R36; 60_exceptions.md R298. -/
def Obligations.EventFlagsAreSticky : Prop :=
  ∀ (i : Instr) (s t : State), (∀ (addr : Byte) (v : Word), i = .csrwr addr v → addr.extractLsb' 2 6 ≠ 9) →
    exec i s = .next t → s.evt &&& t.evt = s.evt

/-- POS counts the accepted PERIOD tokens since START, and nothing else moves it. 10_state.md R34; 46_commands.md R271. -/
def Obligations.PositionCountsPeriods : Prop :=
  ∀ (i : Instr) (s t : State), exec i s = .next t →
    t.ses.pos =
      (if (∃ p, i = .period p) ∧ s.ready = true then s.ses.pos + 1
      else if i.command = some .abort ∨ (i.command = some .start ∧ s.st.isIdle = true) then 0
      else s.ses.pos)

/-- The configuration changes only by a register write while idle: it is constant in a session. 10_state.md R67 (a); 20_memory.md
R83; 46_commands.md R263. -/
def Obligations.ConfigurationFrozen : Prop :=
  ∀ (i : Instr) (s t : State), exec i s = .next t → t.cfg ≠ s.cfg →
    (∃ (addr : Byte) (v : Word), i = .csrwr addr v) ∧ (s.st = .idle ∨ s.st = .done ∨ s.st = .error)

/-- A PERIOD that ends in ERROR has advanced POS and done nothing else, except for E_H7GEOM. 60_exceptions.md R284, R292;
45_framing_disk.md R230, R251 (c). -/
def Obligations.TerminalErrorsArePrecise : Prop :=
  ∀ (s t : State) (p : Half), s.ready = true → exec (.period p) s = .next t → t.st = .error →
    (t.ses.err.errcode ≠ 13 →
        ∃ e : Fatal, t = State.raiseFatal { s with ses.pos := s.ses.pos + 1 } e s.ses.pos)
      ∧ (t.ses.err.errcode = 13 → s.st = .tReadHdr)
      ∧ (s.st.isDisk = true → p = 0)
      ∧ t.ses.err.nfcode = s.ses.err.nfcode ∧ t.ses.err.nfpos = s.ses.err.nfpos ∧ t.nbad = s.nbad

/-- BUF is written by PERIOD only, at the one address that the field's rule stores to. 20_memory.md R72, R77. `storeAddr` computes
the address as the meanings do. -/
def Obligations.MemoryFrame : Prop :=
  ∀ (i : Instr) (s t : State) (a : Nat), exec i s = .next t → ((∀ p, i ≠ .period p) ∨ s.storeAddr ≠ some a) →
    t.bufRead a = s.bufRead a

/-- No byte at or above LENGTH (tape) or SIZE (disk) is ever stored to. 20_memory.md R72 (the last sentence); 44_framing_tape.md
R208 (a block lies below LENGTH). -/
def Obligations.StoresStayInTheFile : Prop :=
  ∀ (s : State) (a : Nat), Inv s → s.storeAddr = some a →
    a < 65536 ∧ (s.st.isTape = true → a < s.ses.rcd.length.toNat) ∧ (s.st.isDisk = true → a < s.ses.sec.size.toNat)

/-- SECT_OK is set only by the delivery of a valid sector and cleared only by TRKCLR. 45_framing_disk.md R250, R241. -/
def Obligations.SectorBitmapChanges : Prop :=
  ∀ (i : Instr) (s t : State), exec i s = .next t →
    t.sectOk = s.sectOk ∨ (i.command = some .trkclr ∧ t.sectOk = 0)
      ∨ ((∃ p, i = .period p) ∧ s.st = .dReadData ∧ t.st = .dDeliver ∧ t.ses.sec.svalid = true
        ∧ t.ses.sec.number.toNat < 32 ∧ t.sectOk = s.sectOk ||| BitVec.twoPow 32 t.ses.sec.number.toNat)

/-- Tokens leave the host's registers alone, host accesses leave the engine alone. 10_state.md R46, R67; 20_memory.md R78. `pins`,
`source`, `tick`, `epoch` are the model's fields (notes/assumptions 1, 6, 7). -/
def Obligations.TokensAndHostFrames : Prop :=
  (∀ (i : Instr) (s t : State), i.isToken = true → exec i s = .next t →
      t.cfg = s.cfg ∧ t.ien = s.ien ∧ t.ckalg = s.ckalg ∧ t.bufaddr = s.bufaddr ∧ t.rdata = s.rdata
        ∧ t.rdValid = s.rdValid ∧ t.pins = s.pins ∧ t.source = s.source ∧ t.tick = s.tick ∧ t.epoch = s.epoch)
    ∧ ∀ (addr : Byte) (v : Word) (s t : State), addr.extractLsb' 2 6 ≠ 1 → exec (.csrwr addr v) s = .next t →
      { t with cfg := s.cfg, ien := s.ien, evt := s.evt, bufaddr := s.bufaddr } = s

/-- In the hold states results stay until a command that may change them. 20_memory.md R81; 45_framing_disk.md R247;
46_commands.md R269; 60_exceptions.md R287 (ERROR is left by START or ABORT only). -/
def Obligations.HoldStatesKeepResults : Prop :=
  ∀ (i : Instr) (s t : State), (s.st = .idle ∨ s.st = .done ∨ s.st = .error ∨ s.st = .dDeliver) → exec i s = .next t →
    i.command ≠ some .abort → (i.command = some .start → s.st = .dDeliver) → (i.command = some .next → s.st ≠ .dDeliver) →
    t.st = s.st ∧ t.ses = s.ses ∧ t.buf = s.buf

/-- IEN and EVT have no effect on what an operation does. 60_exceptions.md R297 (the interrupt has no effect on the engine). -/
def Obligations.InterruptDoesNotAffectDecoding : Prop :=
  ∀ (i : Instr) (s₁ s₂ t₁ : State), (∀ addr, i ≠ .csrrd addr) →
    ({ s₁ with ien := 0, evt := 0 } : State) = { s₂ with ien := 0, evt := 0 } → exec i s₁ = .next t₁ →
    ∃ t₂, exec i s₂ = .next t₂ ∧ ({ t₁ with ien := 0, evt := 0 } : State) = { t₂ with ien := 0, evt := 0 }

/-- The tape checksum is the byte sum reduced modulo 65535 into 1 to 65535, 0 only for a zero sum. 43_checksum.md R178 (c). -/
def Obligations.TapeSumClosedForm : Prop :=
  ∀ bs : List Byte, (tapeChecksum bs).toNat =
    if (bs.map BitVec.toNat).sum = 0 then 0 else ((bs.map BitVec.toNat).sum - 1) % 65535 + 1

/-- Appending the two CRC bytes, high byte first, makes the CRC of the message 0. 43_checksum.md R179 to R181. -/
def Obligations.CrcResidue : Prop :=
  (∀ bs : List Byte, crcCcitt (bs ++ [(crcCcitt bs).extractLsb' 8 8, (crcCcitt bs).extractLsb' 0 8]) = 0)
    ∧ crcCcitt [0xA1, 0xA1, 0xA1] = 0xCDB4

end
end

