-- ==== Sys2Proof/Laws/Memory.lean ====
section
/-! SUPPORT. The laws of `BUF`: read after write, the canonical form, and that equal contents are equal data. -/

namespace Sys2Proof.Machine

@[simp] theorem Memory.get_nil (a : Nat) : Memory.get [] a = none := rfl

/-- Reading the address just written gives the byte written. -/
@[simp] theorem Memory.get_put_same (m : Memory) (a : Nat) (b : Byte) : Memory.get (Memory.put m a b) a = some b := by
  induction m with
  | nil => simp [Memory.put, Memory.get]
  | cons c m ih =>
    obtain ⟨k, c⟩ := c
    by_cases h1 : a < k
    · simp [Memory.put, Memory.get, h1]
    · by_cases h2 : a = k
      · simp [Memory.put, Memory.get, h2]
      · simp [Memory.put, Memory.get, h1, h2, Ne.symm h2, ih]

/-- Writing one address leaves every other address alone. -/
theorem Memory.get_put_other (m : Memory) {a a' : Nat} (b : Byte) (h : a' ≠ a) :
    Memory.get (Memory.put m a b) a' = Memory.get m a' := by
  induction m with
  | nil => simp [Memory.put, Memory.get, Ne.symm h, Memory.unlisted]
  | cons c m ih =>
    obtain ⟨k, c⟩ := c
    by_cases h1 : a < k
    · simp [Memory.put, Memory.get, h1, Ne.symm h]
    · by_cases h2 : a = k
      · subst h2; simp [Memory.put, Memory.get, Ne.symm h]
      · simp only [Memory.put, h1, h2, if_false, Memory.get, ih]

/-- What an address that starts the rest of a rising list can be. -/
theorem Memory.risingFrom_cons {lo k : Nat} {c : Byte} {m : Memory} :
    Memory.risingFrom lo ((k, c) :: m) = true ↔ lo ≤ k ∧ k < Config.bufSize ∧ Memory.risingFrom (k + 1) m = true := by
  simp [Memory.risingFrom, and_assoc]

/-- A write keeps the addresses rising. -/
theorem Memory.put_risingFrom {m : Memory} {lo a : Nat} (b : Byte) (hm : Memory.risingFrom lo m = true) (hlo : lo ≤ a)
    (ha : a < Config.bufSize) : Memory.risingFrom lo (Memory.put m a b) = true := by
  induction m generalizing lo with
  | nil => simp [Memory.put, Memory.risingFrom, hlo, ha]
  | cons c m ih =>
    obtain ⟨k, c⟩ := c
    obtain ⟨h1, h2, h3⟩ := Memory.risingFrom_cons.1 hm
    by_cases hk : a < k
    · simp only [Memory.put, hk, if_true]
      exact Memory.risingFrom_cons.2 ⟨hlo, ha, Memory.risingFrom_cons.2 ⟨hk, h2, h3⟩⟩
    · by_cases he : a = k
      · subst he
        simp only [Memory.put, lt_irrefl, if_false, if_true]
        exact Memory.risingFrom_cons.2 ⟨h1, h2, h3⟩
      · simp only [Memory.put, hk, he, if_false]
        exact Memory.risingFrom_cons.2 ⟨h1, h2, ih h3 (by omega)⟩

/-- A write inside `BUF` keeps the canonical form. -/
theorem Memory.put_wf {m : Memory} {a : Nat} (b : Byte) (hm : Memory.wf m = true) (ha : a < Config.bufSize) :
    Memory.wf (Memory.put m a b) = true :=
  Memory.put_risingFrom b hm (Nat.zero_le a) ha

/-- `MemWrite` keeps the canonical form: every 16-bit address lies inside `BUF`. -/
theorem State.bufWrite_wf (s : State) (a : BitVec 16) (v : Byte) (h : Memory.wf s.buf = true) :
    Memory.wf (s.bufWrite a v).buf = true :=
  Memory.put_wf v h a.isLt

/-- Memory after reset has the canonical form. -/
theorem State.reset_wf : Memory.wf State.reset.buf = true := rfl

/-- `MemRead` of the byte just written. -/
@[simp] theorem State.bufRead_bufWrite_same (s : State) (a : BitVec 16) (v : Byte) : (s.bufWrite a v).bufRead a.toNat = v := by
  simp [State.bufRead, State.bufWrite]

/-- `MemRead` of any other byte. -/
theorem State.bufRead_bufWrite_other (s : State) (a : BitVec 16) (v : Byte) {a' : Nat} (h : a' ≠ a.toNat) :
    (s.bufWrite a v).bufRead a' = s.bufRead a' := by
  simp [State.bufRead, State.bufWrite, Memory.get_put_other _ _ h]

/-- An address below every listed one holds no written byte. -/
theorem Memory.get_below {m : Memory} {lo a : Nat} (hm : Memory.risingFrom lo m = true) (ha : a < lo) :
    Memory.get m a = none := by
  induction m generalizing lo with
  | nil => rfl
  | cons c m ih =>
    obtain ⟨k, c⟩ := c
    obtain ⟨h1, _, h3⟩ := Memory.risingFrom_cons.1 hm
    have hk : k ≠ a := by omega
    simp [Memory.get, hk, ih h3 (by omega)]

/-- Two memories in canonical form that hold the same written bytes are equal data. -/
theorem Memory.eq_of_get {m n : Memory} {lo : Nat} (hm : Memory.risingFrom lo m = true) (hn : Memory.risingFrom lo n = true)
    (h : ∀ a, Memory.get m a = Memory.get n a) : m = n := by
  induction m generalizing n lo with
  | nil =>
    cases n with
    | nil => rfl
    | cons c n => obtain ⟨k, c⟩ := c; have := h k; simp [Memory.get, Memory.unlisted] at this
  | cons c m ih =>
    obtain ⟨k, c⟩ := c
    obtain ⟨h1, _, h3⟩ := Memory.risingFrom_cons.1 hm
    cases n with
    | nil => have := h k; simp [Memory.get, Memory.unlisted] at this
    | cons d n =>
      obtain ⟨l, d⟩ := d
      obtain ⟨g1, _, g3⟩ := Memory.risingFrom_cons.1 hn
      have hkl : k = l := by
        rcases lt_trichotomy k l with hlt | heq | hgt
        · have e := h k
          rw [Memory.get_below (Memory.risingFrom_cons.2 ⟨le_refl l, ‹_›, g3⟩) hlt] at e
          simp [Memory.get] at e
        · exact heq
        · have e := h l
          rw [Memory.get_below (Memory.risingFrom_cons.2 ⟨le_refl k, ‹_›, h3⟩) hgt] at e
          simp [Memory.get] at e
      subst hkl
      have hcd : c = d := by simpa [Memory.get] using h k
      subst hcd
      congr 1
      refine ih h3 g3 fun a => ?_
      have e := h a
      by_cases ha : k = a
      · subst ha
        rw [Memory.get_below h3 (Nat.lt_succ_self k), Memory.get_below g3 (Nat.lt_succ_self k)]
      · simpa [Memory.get, ha] using e

end Sys2Proof.Machine
end

