-- ==== Sys2Proof/Laws/State.lean ====
section
/-! SUPPORT. What each named update does to each field of the state: one lemma for each field and update, so that no proof unfolds
a record update. -/

namespace Sys2Proof.Machine

/-! ### `setFlag` -/

@[simp] theorem State.setFlag_st (s : State) (f : Flag) : (s.setFlag f).st = s.st := rfl
@[simp] theorem State.setFlag_ses (s : State) (f : Flag) : (s.setFlag f).ses = s.ses := rfl
@[simp] theorem State.setFlag_cfg (s : State) (f : Flag) : (s.setFlag f).cfg = s.cfg := rfl
@[simp] theorem State.setFlag_ien (s : State) (f : Flag) : (s.setFlag f).ien = s.ien := rfl
@[simp] theorem State.setFlag_evt (s : State) (f : Flag) : (s.setFlag f).evt = s.evt ||| f.mask := rfl
@[simp] theorem State.setFlag_sectOk (s : State) (f : Flag) : (s.setFlag f).sectOk = s.sectOk := rfl
@[simp] theorem State.setFlag_nbad (s : State) (f : Flag) : (s.setFlag f).nbad = s.nbad := rfl
@[simp] theorem State.setFlag_rev (s : State) (f : Flag) : (s.setFlag f).rev = s.rev := rfl
@[simp] theorem State.setFlag_ck (s : State) (f : Flag) : (s.setFlag f).ck = s.ck := rfl
@[simp] theorem State.setFlag_ckalg (s : State) (f : Flag) : (s.setFlag f).ckalg = s.ckalg := rfl
@[simp] theorem State.setFlag_bufaddr (s : State) (f : Flag) : (s.setFlag f).bufaddr = s.bufaddr := rfl
@[simp] theorem State.setFlag_buf (s : State) (f : Flag) : (s.setFlag f).buf = s.buf := rfl
@[simp] theorem State.setFlag_rdata (s : State) (f : Flag) : (s.setFlag f).rdata = s.rdata := rfl
@[simp] theorem State.setFlag_rdValid (s : State) (f : Flag) : (s.setFlag f).rdValid = s.rdValid := rfl
@[simp] theorem State.setFlag_pins (s : State) (f : Flag) : (s.setFlag f).pins = s.pins := rfl
@[simp] theorem State.setFlag_source (s : State) (f : Flag) : (s.setFlag f).source = s.source := rfl
@[simp] theorem State.setFlag_tick (s : State) (f : Flag) : (s.setFlag f).tick = s.tick := rfl
@[simp] theorem State.setFlag_epoch (s : State) (f : Flag) : (s.setFlag f).epoch = s.epoch := rfl

/-! ### `raiseFatal` -/

@[simp] theorem State.raiseFatal_st (s : State) (e : Fatal) (p : Word) : (s.raiseFatal e p).st = .error := rfl
@[simp] theorem State.raiseFatal_cfg (s : State) (e : Fatal) (p : Word) : (s.raiseFatal e p).cfg = s.cfg := rfl
@[simp] theorem State.raiseFatal_ien (s : State) (e : Fatal) (p : Word) : (s.raiseFatal e p).ien = s.ien := rfl
@[simp] theorem State.raiseFatal_evt (s : State) (e : Fatal) (p : Word) : (s.raiseFatal e p).evt = s.evt ||| Flag.err.mask := rfl
@[simp] theorem State.raiseFatal_sectOk (s : State) (e : Fatal) (p : Word) : (s.raiseFatal e p).sectOk = s.sectOk := rfl
@[simp] theorem State.raiseFatal_nbad (s : State) (e : Fatal) (p : Word) : (s.raiseFatal e p).nbad = s.nbad := rfl
@[simp] theorem State.raiseFatal_rev (s : State) (e : Fatal) (p : Word) : (s.raiseFatal e p).rev = s.rev := rfl
@[simp] theorem State.raiseFatal_ck (s : State) (e : Fatal) (p : Word) : (s.raiseFatal e p).ck = s.ck := rfl
@[simp] theorem State.raiseFatal_ckalg (s : State) (e : Fatal) (p : Word) : (s.raiseFatal e p).ckalg = s.ckalg := rfl
@[simp] theorem State.raiseFatal_bufaddr (s : State) (e : Fatal) (p : Word) : (s.raiseFatal e p).bufaddr = s.bufaddr := rfl
@[simp] theorem State.raiseFatal_buf (s : State) (e : Fatal) (p : Word) : (s.raiseFatal e p).buf = s.buf := rfl
@[simp] theorem State.raiseFatal_rdata (s : State) (e : Fatal) (p : Word) : (s.raiseFatal e p).rdata = s.rdata := rfl
@[simp] theorem State.raiseFatal_rdValid (s : State) (e : Fatal) (p : Word) : (s.raiseFatal e p).rdValid = s.rdValid := rfl
@[simp] theorem State.raiseFatal_pins (s : State) (e : Fatal) (p : Word) : (s.raiseFatal e p).pins = s.pins := rfl
@[simp] theorem State.raiseFatal_source (s : State) (e : Fatal) (p : Word) : (s.raiseFatal e p).source = s.source := rfl
@[simp] theorem State.raiseFatal_tick (s : State) (e : Fatal) (p : Word) : (s.raiseFatal e p).tick = s.tick := rfl
@[simp] theorem State.raiseFatal_epoch (s : State) (e : Fatal) (p : Word) : (s.raiseFatal e p).epoch = s.epoch := rfl
@[simp] theorem State.raiseFatal_thr (s : State) (e : Fatal) (p : Word) : (s.raiseFatal e p).ses.thr = s.ses.thr := rfl
@[simp] theorem State.raiseFatal_pilot (s : State) (e : Fatal) (p : Word) : (s.raiseFatal e p).ses.pilot = s.ses.pilot := rfl
@[simp] theorem State.raiseFatal_bits (s : State) (e : Fatal) (p : Word) : (s.raiseFatal e p).ses.bits = s.ses.bits := rfl
@[simp] theorem State.raiseFatal_mark (s : State) (e : Fatal) (p : Word) : (s.raiseFatal e p).ses.mark = s.ses.mark := rfl
@[simp] theorem State.raiseFatal_win (s : State) (e : Fatal) (p : Word) : (s.raiseFatal e p).ses.win = s.ses.win := rfl
@[simp] theorem State.raiseFatal_look (s : State) (e : Fatal) (p : Word) : (s.raiseFatal e p).ses.look = s.ses.look := rfl
@[simp] theorem State.raiseFatal_rawb (s : State) (e : Fatal) (p : Word) : (s.raiseFatal e p).ses.rawb = s.ses.rawb := rfl
@[simp] theorem State.raiseFatal_pos (s : State) (e : Fatal) (p : Word) : (s.raiseFatal e p).ses.pos = s.ses.pos := rfl
@[simp] theorem State.raiseFatal_byteidx (s : State) (e : Fatal) (p : Word) : (s.raiseFatal e p).ses.byteidx =
    s.ses.byteidx := rfl
@[simp] theorem State.raiseFatal_hb (s : State) (e : Fatal) (p : Word) : (s.raiseFatal e p).ses.hb = s.ses.hb := rfl
@[simp] theorem State.raiseFatal_rcd (s : State) (e : Fatal) (p : Word) : (s.raiseFatal e p).ses.rcd = s.ses.rcd := rfl
@[simp] theorem State.raiseFatal_sec (s : State) (e : Fatal) (p : Word) : (s.raiseFatal e p).ses.sec = s.ses.sec := rfl
@[simp] theorem State.raiseFatal_h7 (s : State) (e : Fatal) (p : Word) : (s.raiseFatal e p).ses.h7 = s.ses.h7 := rfl
@[simp] theorem State.raiseFatal_eosp (s : State) (e : Fatal) (p : Word) : (s.raiseFatal e p).ses.eosp = s.ses.eosp := rfl
@[simp] theorem State.raiseFatal_err (s : State) (e : Fatal) (p : Word) : (s.raiseFatal e p).ses.err =
    { s.ses.err with errcode := e.code, errst := s.st, errms := s.ses.mark.ms, errpos := p } := rfl

/-! ### `nonFatal` -/

@[simp] theorem State.nonFatal_st (s : State) (e : NonFatal) (p : Word) (f : Flag) : (s.nonFatal e p f).st = s.st := rfl
@[simp] theorem State.nonFatal_cfg (s : State) (e : NonFatal) (p : Word) (f : Flag) : (s.nonFatal e p f).cfg = s.cfg := rfl
@[simp] theorem State.nonFatal_ien (s : State) (e : NonFatal) (p : Word) (f : Flag) : (s.nonFatal e p f).ien = s.ien := rfl
@[simp] theorem State.nonFatal_evt (s : State) (e : NonFatal) (p : Word) (f : Flag) : (s.nonFatal e p f).evt = s.evt ||| f.mask := rfl
@[simp] theorem State.nonFatal_sectOk (s : State) (e : NonFatal) (p : Word) (f : Flag) : (s.nonFatal e p f).sectOk = s.sectOk := rfl
@[simp] theorem State.nonFatal_nbad (s : State) (e : NonFatal) (p : Word) (f : Flag) : (s.nonFatal e p f).nbad = if f.countsBad then satInc s.nbad else s.nbad := rfl
@[simp] theorem State.nonFatal_rev (s : State) (e : NonFatal) (p : Word) (f : Flag) : (s.nonFatal e p f).rev = s.rev := rfl
@[simp] theorem State.nonFatal_ck (s : State) (e : NonFatal) (p : Word) (f : Flag) : (s.nonFatal e p f).ck = s.ck := rfl
@[simp] theorem State.nonFatal_ckalg (s : State) (e : NonFatal) (p : Word) (f : Flag) : (s.nonFatal e p f).ckalg = s.ckalg := rfl
@[simp] theorem State.nonFatal_bufaddr (s : State) (e : NonFatal) (p : Word) (f : Flag) : (s.nonFatal e p f).bufaddr = s.bufaddr := rfl
@[simp] theorem State.nonFatal_buf (s : State) (e : NonFatal) (p : Word) (f : Flag) : (s.nonFatal e p f).buf = s.buf := rfl
@[simp] theorem State.nonFatal_rdata (s : State) (e : NonFatal) (p : Word) (f : Flag) : (s.nonFatal e p f).rdata = s.rdata := rfl
@[simp] theorem State.nonFatal_rdValid (s : State) (e : NonFatal) (p : Word) (f : Flag) : (s.nonFatal e p f).rdValid = s.rdValid := rfl
@[simp] theorem State.nonFatal_pins (s : State) (e : NonFatal) (p : Word) (f : Flag) : (s.nonFatal e p f).pins = s.pins := rfl
@[simp] theorem State.nonFatal_source (s : State) (e : NonFatal) (p : Word) (f : Flag) : (s.nonFatal e p f).source = s.source := rfl
@[simp] theorem State.nonFatal_tick (s : State) (e : NonFatal) (p : Word) (f : Flag) : (s.nonFatal e p f).tick = s.tick := rfl
@[simp] theorem State.nonFatal_epoch (s : State) (e : NonFatal) (p : Word) (f : Flag) : (s.nonFatal e p f).epoch = s.epoch := rfl
@[simp] theorem State.nonFatal_thr (s : State) (e : NonFatal) (p : Word) (f : Flag) : (s.nonFatal e p f).ses.thr =
    s.ses.thr := rfl
@[simp] theorem State.nonFatal_pilot (s : State) (e : NonFatal) (p : Word) (f : Flag) : (s.nonFatal e p f).ses.pilot =
    s.ses.pilot := rfl
@[simp] theorem State.nonFatal_bits (s : State) (e : NonFatal) (p : Word) (f : Flag) : (s.nonFatal e p f).ses.bits =
    s.ses.bits := rfl
@[simp] theorem State.nonFatal_mark (s : State) (e : NonFatal) (p : Word) (f : Flag) : (s.nonFatal e p f).ses.mark =
    s.ses.mark := rfl
@[simp] theorem State.nonFatal_win (s : State) (e : NonFatal) (p : Word) (f : Flag) : (s.nonFatal e p f).ses.win =
    s.ses.win := rfl
@[simp] theorem State.nonFatal_look (s : State) (e : NonFatal) (p : Word) (f : Flag) : (s.nonFatal e p f).ses.look =
    s.ses.look := rfl
@[simp] theorem State.nonFatal_rawb (s : State) (e : NonFatal) (p : Word) (f : Flag) : (s.nonFatal e p f).ses.rawb =
    s.ses.rawb := rfl
@[simp] theorem State.nonFatal_pos (s : State) (e : NonFatal) (p : Word) (f : Flag) : (s.nonFatal e p f).ses.pos =
    s.ses.pos := rfl
@[simp] theorem State.nonFatal_byteidx (s : State) (e : NonFatal) (p : Word) (f : Flag) : (s.nonFatal e p f).ses.byteidx =
    s.ses.byteidx := rfl
@[simp] theorem State.nonFatal_hb (s : State) (e : NonFatal) (p : Word) (f : Flag) : (s.nonFatal e p f).ses.hb =
    s.ses.hb := rfl
@[simp] theorem State.nonFatal_rcd (s : State) (e : NonFatal) (p : Word) (f : Flag) : (s.nonFatal e p f).ses.rcd =
    s.ses.rcd := rfl
@[simp] theorem State.nonFatal_sec (s : State) (e : NonFatal) (p : Word) (f : Flag) : (s.nonFatal e p f).ses.sec =
    s.ses.sec := rfl
@[simp] theorem State.nonFatal_h7 (s : State) (e : NonFatal) (p : Word) (f : Flag) : (s.nonFatal e p f).ses.h7 =
    s.ses.h7 := rfl
@[simp] theorem State.nonFatal_eosp (s : State) (e : NonFatal) (p : Word) (f : Flag) : (s.nonFatal e p f).ses.eosp =
    s.ses.eosp := rfl
@[simp] theorem State.nonFatal_err (s : State) (e : NonFatal) (p : Word) (f : Flag) : (s.nonFatal e p f).ses.err =
    { s.ses.err with nfcode := e.code, nfpos := p } := rfl

/-! ### `refuse` -/

@[simp] theorem State.refuse_st (s : State) : (s.refuse).st = s.st := rfl
@[simp] theorem State.refuse_ses (s : State) : (s.refuse).ses = s.ses := rfl
@[simp] theorem State.refuse_cfg (s : State) : (s.refuse).cfg = s.cfg := rfl
@[simp] theorem State.refuse_ien (s : State) : (s.refuse).ien = s.ien := rfl
@[simp] theorem State.refuse_evt (s : State) : (s.refuse).evt = s.evt ||| Flag.refused.mask := rfl
@[simp] theorem State.refuse_sectOk (s : State) : (s.refuse).sectOk = s.sectOk := rfl
@[simp] theorem State.refuse_nbad (s : State) : (s.refuse).nbad = s.nbad := rfl
@[simp] theorem State.refuse_rev (s : State) : (s.refuse).rev = s.rev := rfl
@[simp] theorem State.refuse_ck (s : State) : (s.refuse).ck = s.ck := rfl
@[simp] theorem State.refuse_ckalg (s : State) : (s.refuse).ckalg = s.ckalg := rfl
@[simp] theorem State.refuse_bufaddr (s : State) : (s.refuse).bufaddr = s.bufaddr := rfl
@[simp] theorem State.refuse_buf (s : State) : (s.refuse).buf = s.buf := rfl
@[simp] theorem State.refuse_rdata (s : State) : (s.refuse).rdata = s.rdata := rfl
@[simp] theorem State.refuse_rdValid (s : State) : (s.refuse).rdValid = s.rdValid := rfl
@[simp] theorem State.refuse_pins (s : State) : (s.refuse).pins = s.pins := rfl
@[simp] theorem State.refuse_source (s : State) : (s.refuse).source = s.source := rfl
@[simp] theorem State.refuse_tick (s : State) : (s.refuse).tick = s.tick := rfl
@[simp] theorem State.refuse_epoch (s : State) : (s.refuse).epoch = s.epoch := rfl

/-! ### `clearSession` -/

@[simp] theorem State.clearSession_st (s : State) : (s.clearSession).st = s.st := rfl
@[simp] theorem State.clearSession_ses (s : State) : (s.clearSession).ses = Session.zero := rfl
@[simp] theorem State.clearSession_cfg (s : State) : (s.clearSession).cfg = s.cfg := rfl
@[simp] theorem State.clearSession_ien (s : State) : (s.clearSession).ien = s.ien := rfl
@[simp] theorem State.clearSession_evt (s : State) : (s.clearSession).evt = s.evt := rfl
@[simp] theorem State.clearSession_sectOk (s : State) : (s.clearSession).sectOk = s.sectOk := rfl
@[simp] theorem State.clearSession_nbad (s : State) : (s.clearSession).nbad = s.nbad := rfl
@[simp] theorem State.clearSession_rev (s : State) : (s.clearSession).rev = s.rev := rfl
@[simp] theorem State.clearSession_ck (s : State) : (s.clearSession).ck = s.ck := rfl
@[simp] theorem State.clearSession_ckalg (s : State) : (s.clearSession).ckalg = s.ckalg := rfl
@[simp] theorem State.clearSession_bufaddr (s : State) : (s.clearSession).bufaddr = s.bufaddr := rfl
@[simp] theorem State.clearSession_buf (s : State) : (s.clearSession).buf = s.buf := rfl
@[simp] theorem State.clearSession_rdata (s : State) : (s.clearSession).rdata = s.rdata := rfl
@[simp] theorem State.clearSession_rdValid (s : State) : (s.clearSession).rdValid = s.rdValid := rfl
@[simp] theorem State.clearSession_pins (s : State) : (s.clearSession).pins = s.pins := rfl
@[simp] theorem State.clearSession_source (s : State) : (s.clearSession).source = s.source := rfl
@[simp] theorem State.clearSession_tick (s : State) : (s.clearSession).tick = s.tick := rfl
@[simp] theorem State.clearSession_epoch (s : State) : (s.clearSession).epoch = s.epoch := rfl

/-! ### `startBytes` -/

@[simp] theorem State.startBytes_st (s : State) : (s.startBytes).st = s.st := rfl
@[simp] theorem State.startBytes_cfg (s : State) : (s.startBytes).cfg = s.cfg := rfl
@[simp] theorem State.startBytes_ien (s : State) : (s.startBytes).ien = s.ien := rfl
@[simp] theorem State.startBytes_evt (s : State) : (s.startBytes).evt = s.evt := rfl
@[simp] theorem State.startBytes_sectOk (s : State) : (s.startBytes).sectOk = s.sectOk := rfl
@[simp] theorem State.startBytes_nbad (s : State) : (s.startBytes).nbad = s.nbad := rfl
@[simp] theorem State.startBytes_rev (s : State) : (s.startBytes).rev = s.rev := rfl
@[simp] theorem State.startBytes_ck (s : State) : (s.startBytes).ck = s.ck := rfl
@[simp] theorem State.startBytes_ckalg (s : State) : (s.startBytes).ckalg = s.ckalg := rfl
@[simp] theorem State.startBytes_bufaddr (s : State) : (s.startBytes).bufaddr = s.bufaddr := rfl
@[simp] theorem State.startBytes_buf (s : State) : (s.startBytes).buf = s.buf := rfl
@[simp] theorem State.startBytes_rdata (s : State) : (s.startBytes).rdata = s.rdata := rfl
@[simp] theorem State.startBytes_rdValid (s : State) : (s.startBytes).rdValid = s.rdValid := rfl
@[simp] theorem State.startBytes_pins (s : State) : (s.startBytes).pins = s.pins := rfl
@[simp] theorem State.startBytes_source (s : State) : (s.startBytes).source = s.source := rfl
@[simp] theorem State.startBytes_tick (s : State) : (s.startBytes).tick = s.tick := rfl
@[simp] theorem State.startBytes_epoch (s : State) : (s.startBytes).epoch = s.epoch := rfl
@[simp] theorem State.startBytes_thr (s : State) : (s.startBytes).ses.thr = s.ses.thr := rfl
@[simp] theorem State.startBytes_pilot (s : State) : (s.startBytes).ses.pilot = s.ses.pilot := rfl
@[simp] theorem State.startBytes_bits (s : State) : (s.startBytes).ses.bits = { shr := 0, bitcnt := 0, bph := false } := rfl
@[simp] theorem State.startBytes_mark (s : State) : (s.startBytes).ses.mark = s.ses.mark := rfl
@[simp] theorem State.startBytes_win (s : State) : (s.startBytes).ses.win = s.ses.win := rfl
@[simp] theorem State.startBytes_look (s : State) : (s.startBytes).ses.look = s.ses.look := rfl
@[simp] theorem State.startBytes_rawb (s : State) : (s.startBytes).ses.rawb = s.ses.rawb := rfl
@[simp] theorem State.startBytes_pos (s : State) : (s.startBytes).ses.pos = s.ses.pos := rfl
@[simp] theorem State.startBytes_byteidx (s : State) : (s.startBytes).ses.byteidx = 0 := rfl
@[simp] theorem State.startBytes_hb (s : State) : (s.startBytes).ses.hb = s.ses.hb := rfl
@[simp] theorem State.startBytes_rcd (s : State) : (s.startBytes).ses.rcd = s.ses.rcd := rfl
@[simp] theorem State.startBytes_sec (s : State) : (s.startBytes).ses.sec = s.ses.sec := rfl
@[simp] theorem State.startBytes_h7 (s : State) : (s.startBytes).ses.h7 = s.ses.h7 := rfl
@[simp] theorem State.startBytes_eosp (s : State) : (s.startBytes).ses.eosp = s.ses.eosp := rfl
@[simp] theorem State.startBytes_err (s : State) : (s.startBytes).ses.err = s.ses.err := rfl

/-! ### `enterMarker` -/

@[simp] theorem State.enterMarker_st (s : State) (c : Ctl) : (s.enterMarker c).st = c := rfl
@[simp] theorem State.enterMarker_cfg (s : State) (c : Ctl) : (s.enterMarker c).cfg = s.cfg := rfl
@[simp] theorem State.enterMarker_ien (s : State) (c : Ctl) : (s.enterMarker c).ien = s.ien := rfl
@[simp] theorem State.enterMarker_evt (s : State) (c : Ctl) : (s.enterMarker c).evt = s.evt := rfl
@[simp] theorem State.enterMarker_sectOk (s : State) (c : Ctl) : (s.enterMarker c).sectOk = s.sectOk := rfl
@[simp] theorem State.enterMarker_nbad (s : State) (c : Ctl) : (s.enterMarker c).nbad = s.nbad := rfl
@[simp] theorem State.enterMarker_rev (s : State) (c : Ctl) : (s.enterMarker c).rev = s.rev := rfl
@[simp] theorem State.enterMarker_ck (s : State) (c : Ctl) : (s.enterMarker c).ck = s.ck := rfl
@[simp] theorem State.enterMarker_ckalg (s : State) (c : Ctl) : (s.enterMarker c).ckalg = s.ckalg := rfl
@[simp] theorem State.enterMarker_bufaddr (s : State) (c : Ctl) : (s.enterMarker c).bufaddr = s.bufaddr := rfl
@[simp] theorem State.enterMarker_buf (s : State) (c : Ctl) : (s.enterMarker c).buf = s.buf := rfl
@[simp] theorem State.enterMarker_rdata (s : State) (c : Ctl) : (s.enterMarker c).rdata = s.rdata := rfl
@[simp] theorem State.enterMarker_rdValid (s : State) (c : Ctl) : (s.enterMarker c).rdValid = s.rdValid := rfl
@[simp] theorem State.enterMarker_pins (s : State) (c : Ctl) : (s.enterMarker c).pins = s.pins := rfl
@[simp] theorem State.enterMarker_source (s : State) (c : Ctl) : (s.enterMarker c).source = s.source := rfl
@[simp] theorem State.enterMarker_tick (s : State) (c : Ctl) : (s.enterMarker c).tick = s.tick := rfl
@[simp] theorem State.enterMarker_epoch (s : State) (c : Ctl) : (s.enterMarker c).epoch = s.epoch := rfl
@[simp] theorem State.enterMarker_thr (s : State) (c : Ctl) : (s.enterMarker c).ses.thr = s.ses.thr := rfl
@[simp] theorem State.enterMarker_pilot (s : State) (c : Ctl) : (s.enterMarker c).ses.pilot = s.ses.pilot := rfl
@[simp] theorem State.enterMarker_bits (s : State) (c : Ctl) : (s.enterMarker c).ses.bits = s.ses.bits := rfl
@[simp] theorem State.enterMarker_mark (s : State) (c : Ctl) : (s.enterMarker c).ses.mark =
    { s.ses.mark with ms := .lead, mcnt := 0 } := rfl
@[simp] theorem State.enterMarker_win (s : State) (c : Ctl) : (s.enterMarker c).ses.win = s.ses.win := rfl
@[simp] theorem State.enterMarker_look (s : State) (c : Ctl) : (s.enterMarker c).ses.look = s.ses.look := rfl
@[simp] theorem State.enterMarker_rawb (s : State) (c : Ctl) : (s.enterMarker c).ses.rawb = s.ses.rawb := rfl
@[simp] theorem State.enterMarker_pos (s : State) (c : Ctl) : (s.enterMarker c).ses.pos = s.ses.pos := rfl
@[simp] theorem State.enterMarker_byteidx (s : State) (c : Ctl) : (s.enterMarker c).ses.byteidx = s.ses.byteidx := rfl
@[simp] theorem State.enterMarker_hb (s : State) (c : Ctl) : (s.enterMarker c).ses.hb = s.ses.hb := rfl
@[simp] theorem State.enterMarker_rcd (s : State) (c : Ctl) : (s.enterMarker c).ses.rcd = s.ses.rcd := rfl
@[simp] theorem State.enterMarker_sec (s : State) (c : Ctl) : (s.enterMarker c).ses.sec = s.ses.sec := rfl
@[simp] theorem State.enterMarker_h7 (s : State) (c : Ctl) : (s.enterMarker c).ses.h7 = s.ses.h7 := rfl
@[simp] theorem State.enterMarker_eosp (s : State) (c : Ctl) : (s.enterMarker c).ses.eosp = s.ses.eosp := rfl
@[simp] theorem State.enterMarker_err (s : State) (c : Ctl) : (s.enterMarker c).ses.err = s.ses.err := rfl

/-! ### `enterSeek` -/

@[simp] theorem State.enterSeek_st (s : State) : (s.enterSeek).st = .h7Seek := rfl
@[simp] theorem State.enterSeek_cfg (s : State) : (s.enterSeek).cfg = s.cfg := rfl
@[simp] theorem State.enterSeek_ien (s : State) : (s.enterSeek).ien = s.ien := rfl
@[simp] theorem State.enterSeek_evt (s : State) : (s.enterSeek).evt = s.evt := rfl
@[simp] theorem State.enterSeek_sectOk (s : State) : (s.enterSeek).sectOk = s.sectOk := rfl
@[simp] theorem State.enterSeek_nbad (s : State) : (s.enterSeek).nbad = s.nbad := rfl
@[simp] theorem State.enterSeek_rev (s : State) : (s.enterSeek).rev = s.rev := rfl
@[simp] theorem State.enterSeek_ck (s : State) : (s.enterSeek).ck = s.ck := rfl
@[simp] theorem State.enterSeek_ckalg (s : State) : (s.enterSeek).ckalg = s.ckalg := rfl
@[simp] theorem State.enterSeek_bufaddr (s : State) : (s.enterSeek).bufaddr = s.bufaddr := rfl
@[simp] theorem State.enterSeek_buf (s : State) : (s.enterSeek).buf = s.buf := rfl
@[simp] theorem State.enterSeek_rdata (s : State) : (s.enterSeek).rdata = s.rdata := rfl
@[simp] theorem State.enterSeek_rdValid (s : State) : (s.enterSeek).rdValid = s.rdValid := rfl
@[simp] theorem State.enterSeek_pins (s : State) : (s.enterSeek).pins = s.pins := rfl
@[simp] theorem State.enterSeek_source (s : State) : (s.enterSeek).source = s.source := rfl
@[simp] theorem State.enterSeek_tick (s : State) : (s.enterSeek).tick = s.tick := rfl
@[simp] theorem State.enterSeek_epoch (s : State) : (s.enterSeek).epoch = s.epoch := rfl
@[simp] theorem State.enterSeek_thr (s : State) : (s.enterSeek).ses.thr = s.ses.thr := rfl
@[simp] theorem State.enterSeek_pilot (s : State) : (s.enterSeek).ses.pilot = s.ses.pilot := rfl
@[simp] theorem State.enterSeek_bits (s : State) : (s.enterSeek).ses.bits = s.ses.bits := rfl
@[simp] theorem State.enterSeek_mark (s : State) : (s.enterSeek).ses.mark = { s.ses.mark with ms := .lead, zrun := 0 } := rfl
@[simp] theorem State.enterSeek_win (s : State) : (s.enterSeek).ses.win = s.ses.win := rfl
@[simp] theorem State.enterSeek_look (s : State) : (s.enterSeek).ses.look = s.ses.look := rfl
@[simp] theorem State.enterSeek_rawb (s : State) : (s.enterSeek).ses.rawb = s.ses.rawb := rfl
@[simp] theorem State.enterSeek_pos (s : State) : (s.enterSeek).ses.pos = s.ses.pos := rfl
@[simp] theorem State.enterSeek_byteidx (s : State) : (s.enterSeek).ses.byteidx = s.ses.byteidx := rfl
@[simp] theorem State.enterSeek_hb (s : State) : (s.enterSeek).ses.hb = s.ses.hb := rfl
@[simp] theorem State.enterSeek_rcd (s : State) : (s.enterSeek).ses.rcd = s.ses.rcd := rfl
@[simp] theorem State.enterSeek_sec (s : State) : (s.enterSeek).ses.sec = s.ses.sec := rfl
@[simp] theorem State.enterSeek_h7 (s : State) : (s.enterSeek).ses.h7 = s.ses.h7 := rfl
@[simp] theorem State.enterSeek_eosp (s : State) : (s.enterSeek).ses.eosp = s.ses.eosp := rfl
@[simp] theorem State.enterSeek_err (s : State) : (s.enterSeek).ses.err = s.ses.err := rfl

/-! ### `clearWindow` -/

@[simp] theorem State.clearWindow_st (s : State) : (s.clearWindow).st = s.st := rfl
@[simp] theorem State.clearWindow_cfg (s : State) : (s.clearWindow).cfg = s.cfg := rfl
@[simp] theorem State.clearWindow_ien (s : State) : (s.clearWindow).ien = s.ien := rfl
@[simp] theorem State.clearWindow_evt (s : State) : (s.clearWindow).evt = s.evt := rfl
@[simp] theorem State.clearWindow_sectOk (s : State) : (s.clearWindow).sectOk = s.sectOk := rfl
@[simp] theorem State.clearWindow_nbad (s : State) : (s.clearWindow).nbad = s.nbad := rfl
@[simp] theorem State.clearWindow_rev (s : State) : (s.clearWindow).rev = s.rev := rfl
@[simp] theorem State.clearWindow_ck (s : State) : (s.clearWindow).ck = s.ck := rfl
@[simp] theorem State.clearWindow_ckalg (s : State) : (s.clearWindow).ckalg = s.ckalg := rfl
@[simp] theorem State.clearWindow_bufaddr (s : State) : (s.clearWindow).bufaddr = s.bufaddr := rfl
@[simp] theorem State.clearWindow_buf (s : State) : (s.clearWindow).buf = s.buf := rfl
@[simp] theorem State.clearWindow_rdata (s : State) : (s.clearWindow).rdata = s.rdata := rfl
@[simp] theorem State.clearWindow_rdValid (s : State) : (s.clearWindow).rdValid = s.rdValid := rfl
@[simp] theorem State.clearWindow_pins (s : State) : (s.clearWindow).pins = s.pins := rfl
@[simp] theorem State.clearWindow_source (s : State) : (s.clearWindow).source = s.source := rfl
@[simp] theorem State.clearWindow_tick (s : State) : (s.clearWindow).tick = s.tick := rfl
@[simp] theorem State.clearWindow_epoch (s : State) : (s.clearWindow).epoch = s.epoch := rfl
@[simp] theorem State.clearWindow_thr (s : State) : (s.clearWindow).ses.thr = s.ses.thr := rfl
@[simp] theorem State.clearWindow_pilot (s : State) : (s.clearWindow).ses.pilot = s.ses.pilot := rfl
@[simp] theorem State.clearWindow_bits (s : State) : (s.clearWindow).ses.bits = s.ses.bits := rfl
@[simp] theorem State.clearWindow_mark (s : State) : (s.clearWindow).ses.mark = s.ses.mark := rfl
@[simp] theorem State.clearWindow_win (s : State) : (s.clearWindow).ses.win = Window.empty := rfl
@[simp] theorem State.clearWindow_look (s : State) : (s.clearWindow).ses.look = s.ses.look := rfl
@[simp] theorem State.clearWindow_rawb (s : State) : (s.clearWindow).ses.rawb = s.ses.rawb := rfl
@[simp] theorem State.clearWindow_pos (s : State) : (s.clearWindow).ses.pos = s.ses.pos := rfl
@[simp] theorem State.clearWindow_byteidx (s : State) : (s.clearWindow).ses.byteidx = s.ses.byteidx := rfl
@[simp] theorem State.clearWindow_hb (s : State) : (s.clearWindow).ses.hb = s.ses.hb := rfl
@[simp] theorem State.clearWindow_rcd (s : State) : (s.clearWindow).ses.rcd = s.ses.rcd := rfl
@[simp] theorem State.clearWindow_sec (s : State) : (s.clearWindow).ses.sec = s.ses.sec := rfl
@[simp] theorem State.clearWindow_h7 (s : State) : (s.clearWindow).ses.h7 = s.ses.h7 := rfl
@[simp] theorem State.clearWindow_eosp (s : State) : (s.clearWindow).ses.eosp = s.ses.eosp := rfl
@[simp] theorem State.clearWindow_err (s : State) : (s.clearWindow).ses.err = s.ses.err := rfl

/-! ### `resumeFindHdr` -/

@[simp] theorem State.resumeFindHdr_st (s : State) : (s.resumeFindHdr).st = .dFindHdr := rfl
@[simp] theorem State.resumeFindHdr_cfg (s : State) : (s.resumeFindHdr).cfg = s.cfg := rfl
@[simp] theorem State.resumeFindHdr_ien (s : State) : (s.resumeFindHdr).ien = s.ien := rfl
@[simp] theorem State.resumeFindHdr_evt (s : State) : (s.resumeFindHdr).evt = s.evt := rfl
@[simp] theorem State.resumeFindHdr_sectOk (s : State) : (s.resumeFindHdr).sectOk = s.sectOk := rfl
@[simp] theorem State.resumeFindHdr_nbad (s : State) : (s.resumeFindHdr).nbad = s.nbad := rfl
@[simp] theorem State.resumeFindHdr_rev (s : State) : (s.resumeFindHdr).rev = s.rev := rfl
@[simp] theorem State.resumeFindHdr_ck (s : State) : (s.resumeFindHdr).ck = s.ck := rfl
@[simp] theorem State.resumeFindHdr_ckalg (s : State) : (s.resumeFindHdr).ckalg = s.ckalg := rfl
@[simp] theorem State.resumeFindHdr_bufaddr (s : State) : (s.resumeFindHdr).bufaddr = s.bufaddr := rfl
@[simp] theorem State.resumeFindHdr_buf (s : State) : (s.resumeFindHdr).buf = s.buf := rfl
@[simp] theorem State.resumeFindHdr_rdata (s : State) : (s.resumeFindHdr).rdata = s.rdata := rfl
@[simp] theorem State.resumeFindHdr_rdValid (s : State) : (s.resumeFindHdr).rdValid = s.rdValid := rfl
@[simp] theorem State.resumeFindHdr_pins (s : State) : (s.resumeFindHdr).pins = s.pins := rfl
@[simp] theorem State.resumeFindHdr_source (s : State) : (s.resumeFindHdr).source = s.source := rfl
@[simp] theorem State.resumeFindHdr_tick (s : State) : (s.resumeFindHdr).tick = s.tick := rfl
@[simp] theorem State.resumeFindHdr_epoch (s : State) : (s.resumeFindHdr).epoch = s.epoch := rfl
@[simp] theorem State.resumeFindHdr_thr (s : State) : (s.resumeFindHdr).ses.thr = s.ses.thr := rfl
@[simp] theorem State.resumeFindHdr_pilot (s : State) : (s.resumeFindHdr).ses.pilot = s.ses.pilot := rfl
@[simp] theorem State.resumeFindHdr_bits (s : State) : (s.resumeFindHdr).ses.bits = s.ses.bits := rfl
@[simp] theorem State.resumeFindHdr_mark (s : State) : (s.resumeFindHdr).ses.mark = s.ses.mark := rfl
@[simp] theorem State.resumeFindHdr_win (s : State) : (s.resumeFindHdr).ses.win = Window.empty := rfl
@[simp] theorem State.resumeFindHdr_look (s : State) : (s.resumeFindHdr).ses.look = s.ses.look := rfl
@[simp] theorem State.resumeFindHdr_rawb (s : State) : (s.resumeFindHdr).ses.rawb = s.ses.rawb := rfl
@[simp] theorem State.resumeFindHdr_pos (s : State) : (s.resumeFindHdr).ses.pos = s.ses.pos := rfl
@[simp] theorem State.resumeFindHdr_byteidx (s : State) : (s.resumeFindHdr).ses.byteidx = s.ses.byteidx := rfl
@[simp] theorem State.resumeFindHdr_hb (s : State) : (s.resumeFindHdr).ses.hb = s.ses.hb := rfl
@[simp] theorem State.resumeFindHdr_rcd (s : State) : (s.resumeFindHdr).ses.rcd = s.ses.rcd := rfl
@[simp] theorem State.resumeFindHdr_sec (s : State) : (s.resumeFindHdr).ses.sec = s.ses.sec := rfl
@[simp] theorem State.resumeFindHdr_h7 (s : State) : (s.resumeFindHdr).ses.h7 = s.ses.h7 := rfl
@[simp] theorem State.resumeFindHdr_eosp (s : State) : (s.resumeFindHdr).ses.eosp = s.ses.eosp := rfl
@[simp] theorem State.resumeFindHdr_err (s : State) : (s.resumeFindHdr).ses.err = s.ses.err := rfl

/-! ### `finish` -/

@[simp] theorem State.finish_st (s : State) : (s.finish).st = .done := rfl
@[simp] theorem State.finish_ses (s : State) : (s.finish).ses = s.ses := rfl
@[simp] theorem State.finish_cfg (s : State) : (s.finish).cfg = s.cfg := rfl
@[simp] theorem State.finish_ien (s : State) : (s.finish).ien = s.ien := rfl
@[simp] theorem State.finish_evt (s : State) : (s.finish).evt = s.evt ||| Flag.done.mask := rfl
@[simp] theorem State.finish_sectOk (s : State) : (s.finish).sectOk = s.sectOk := rfl
@[simp] theorem State.finish_nbad (s : State) : (s.finish).nbad = s.nbad := rfl
@[simp] theorem State.finish_rev (s : State) : (s.finish).rev = s.rev := rfl
@[simp] theorem State.finish_ck (s : State) : (s.finish).ck = s.ck := rfl
@[simp] theorem State.finish_ckalg (s : State) : (s.finish).ckalg = s.ckalg := rfl
@[simp] theorem State.finish_bufaddr (s : State) : (s.finish).bufaddr = s.bufaddr := rfl
@[simp] theorem State.finish_buf (s : State) : (s.finish).buf = s.buf := rfl
@[simp] theorem State.finish_rdata (s : State) : (s.finish).rdata = s.rdata := rfl
@[simp] theorem State.finish_rdValid (s : State) : (s.finish).rdValid = s.rdValid := rfl
@[simp] theorem State.finish_pins (s : State) : (s.finish).pins = s.pins := rfl
@[simp] theorem State.finish_source (s : State) : (s.finish).source = s.source := rfl
@[simp] theorem State.finish_tick (s : State) : (s.finish).tick = s.tick := rfl
@[simp] theorem State.finish_epoch (s : State) : (s.finish).epoch = s.epoch := rfl

/-! ### `bufWrite` -/

@[simp] theorem State.bufWrite_st (s : State) (a : BitVec 16) (v : Byte) : (s.bufWrite a v).st = s.st := rfl
@[simp] theorem State.bufWrite_ses (s : State) (a : BitVec 16) (v : Byte) : (s.bufWrite a v).ses = s.ses := rfl
@[simp] theorem State.bufWrite_cfg (s : State) (a : BitVec 16) (v : Byte) : (s.bufWrite a v).cfg = s.cfg := rfl
@[simp] theorem State.bufWrite_ien (s : State) (a : BitVec 16) (v : Byte) : (s.bufWrite a v).ien = s.ien := rfl
@[simp] theorem State.bufWrite_evt (s : State) (a : BitVec 16) (v : Byte) : (s.bufWrite a v).evt = s.evt := rfl
@[simp] theorem State.bufWrite_sectOk (s : State) (a : BitVec 16) (v : Byte) : (s.bufWrite a v).sectOk = s.sectOk := rfl
@[simp] theorem State.bufWrite_nbad (s : State) (a : BitVec 16) (v : Byte) : (s.bufWrite a v).nbad = s.nbad := rfl
@[simp] theorem State.bufWrite_rev (s : State) (a : BitVec 16) (v : Byte) : (s.bufWrite a v).rev = s.rev := rfl
@[simp] theorem State.bufWrite_ck (s : State) (a : BitVec 16) (v : Byte) : (s.bufWrite a v).ck = s.ck := rfl
@[simp] theorem State.bufWrite_ckalg (s : State) (a : BitVec 16) (v : Byte) : (s.bufWrite a v).ckalg = s.ckalg := rfl
@[simp] theorem State.bufWrite_bufaddr (s : State) (a : BitVec 16) (v : Byte) : (s.bufWrite a v).bufaddr = s.bufaddr := rfl
@[simp] theorem State.bufWrite_buf (s : State) (a : BitVec 16) (v : Byte) : (s.bufWrite a v).buf = Memory.put s.buf a.toNat v := rfl
@[simp] theorem State.bufWrite_rdata (s : State) (a : BitVec 16) (v : Byte) : (s.bufWrite a v).rdata = s.rdata := rfl
@[simp] theorem State.bufWrite_rdValid (s : State) (a : BitVec 16) (v : Byte) : (s.bufWrite a v).rdValid = s.rdValid := rfl
@[simp] theorem State.bufWrite_pins (s : State) (a : BitVec 16) (v : Byte) : (s.bufWrite a v).pins = s.pins := rfl
@[simp] theorem State.bufWrite_source (s : State) (a : BitVec 16) (v : Byte) : (s.bufWrite a v).source = s.source := rfl
@[simp] theorem State.bufWrite_tick (s : State) (a : BitVec 16) (v : Byte) : (s.bufWrite a v).tick = s.tick := rfl
@[simp] theorem State.bufWrite_epoch (s : State) (a : BitVec 16) (v : Byte) : (s.bufWrite a v).epoch = s.epoch := rfl

/-! ### `countPeriod` -/

@[simp] theorem State.countPeriod_st (s : State) : (s.countPeriod).st = s.st := rfl
@[simp] theorem State.countPeriod_cfg (s : State) : (s.countPeriod).cfg = s.cfg := rfl
@[simp] theorem State.countPeriod_ien (s : State) : (s.countPeriod).ien = s.ien := rfl
@[simp] theorem State.countPeriod_evt (s : State) : (s.countPeriod).evt = s.evt := rfl
@[simp] theorem State.countPeriod_sectOk (s : State) : (s.countPeriod).sectOk = s.sectOk := rfl
@[simp] theorem State.countPeriod_nbad (s : State) : (s.countPeriod).nbad = s.nbad := rfl
@[simp] theorem State.countPeriod_rev (s : State) : (s.countPeriod).rev = s.rev := rfl
@[simp] theorem State.countPeriod_ck (s : State) : (s.countPeriod).ck = s.ck := rfl
@[simp] theorem State.countPeriod_ckalg (s : State) : (s.countPeriod).ckalg = s.ckalg := rfl
@[simp] theorem State.countPeriod_bufaddr (s : State) : (s.countPeriod).bufaddr = s.bufaddr := rfl
@[simp] theorem State.countPeriod_buf (s : State) : (s.countPeriod).buf = s.buf := rfl
@[simp] theorem State.countPeriod_rdata (s : State) : (s.countPeriod).rdata = s.rdata := rfl
@[simp] theorem State.countPeriod_rdValid (s : State) : (s.countPeriod).rdValid = s.rdValid := rfl
@[simp] theorem State.countPeriod_pins (s : State) : (s.countPeriod).pins = s.pins := rfl
@[simp] theorem State.countPeriod_source (s : State) : (s.countPeriod).source = s.source := rfl
@[simp] theorem State.countPeriod_tick (s : State) : (s.countPeriod).tick = s.tick := rfl
@[simp] theorem State.countPeriod_epoch (s : State) : (s.countPeriod).epoch = s.epoch := rfl
@[simp] theorem State.countPeriod_thr (s : State) : (s.countPeriod).ses.thr = s.ses.thr := rfl
@[simp] theorem State.countPeriod_pilot (s : State) : (s.countPeriod).ses.pilot = s.ses.pilot := rfl
@[simp] theorem State.countPeriod_bits (s : State) : (s.countPeriod).ses.bits = s.ses.bits := rfl
@[simp] theorem State.countPeriod_mark (s : State) : (s.countPeriod).ses.mark = s.ses.mark := rfl
@[simp] theorem State.countPeriod_win (s : State) : (s.countPeriod).ses.win = s.ses.win := rfl
@[simp] theorem State.countPeriod_look (s : State) : (s.countPeriod).ses.look = s.ses.look := rfl
@[simp] theorem State.countPeriod_rawb (s : State) : (s.countPeriod).ses.rawb = s.ses.rawb := rfl
@[simp] theorem State.countPeriod_pos (s : State) : (s.countPeriod).ses.pos = s.ses.pos + 1 := rfl
@[simp] theorem State.countPeriod_byteidx (s : State) : (s.countPeriod).ses.byteidx = s.ses.byteidx := rfl
@[simp] theorem State.countPeriod_hb (s : State) : (s.countPeriod).ses.hb = s.ses.hb := rfl
@[simp] theorem State.countPeriod_rcd (s : State) : (s.countPeriod).ses.rcd = s.ses.rcd := rfl
@[simp] theorem State.countPeriod_sec (s : State) : (s.countPeriod).ses.sec = s.ses.sec := rfl
@[simp] theorem State.countPeriod_h7 (s : State) : (s.countPeriod).ses.h7 = s.ses.h7 := rfl
@[simp] theorem State.countPeriod_eosp (s : State) : (s.countPeriod).ses.eosp = s.ses.eosp := rfl
@[simp] theorem State.countPeriod_err (s : State) : (s.countPeriod).ses.err = s.ses.err := rfl

/-! ### `endCycle` -/

@[simp] theorem State.endCycle_st (s : State) : (s.endCycle).st = s.st := rfl
@[simp] theorem State.endCycle_ses (s : State) : (s.endCycle).ses = s.ses := rfl
@[simp] theorem State.endCycle_cfg (s : State) : (s.endCycle).cfg = s.cfg := rfl
@[simp] theorem State.endCycle_ien (s : State) : (s.endCycle).ien = s.ien := rfl
@[simp] theorem State.endCycle_evt (s : State) : (s.endCycle).evt = s.evt := rfl
@[simp] theorem State.endCycle_sectOk (s : State) : (s.endCycle).sectOk = s.sectOk := rfl
@[simp] theorem State.endCycle_nbad (s : State) : (s.endCycle).nbad = s.nbad := rfl
@[simp] theorem State.endCycle_rev (s : State) : (s.endCycle).rev = s.rev := rfl
@[simp] theorem State.endCycle_ck (s : State) : (s.endCycle).ck = s.ck := rfl
@[simp] theorem State.endCycle_ckalg (s : State) : (s.endCycle).ckalg = s.ckalg := rfl
@[simp] theorem State.endCycle_bufaddr (s : State) : (s.endCycle).bufaddr = s.bufaddr := rfl
@[simp] theorem State.endCycle_buf (s : State) : (s.endCycle).buf = s.buf := rfl
@[simp] theorem State.endCycle_rdata (s : State) : (s.endCycle).rdata = s.rdata := rfl
@[simp] theorem State.endCycle_rdValid (s : State) : (s.endCycle).rdValid = false := rfl
@[simp] theorem State.endCycle_pins (s : State) : (s.endCycle).pins = s.pins.tail := rfl
@[simp] theorem State.endCycle_source (s : State) : (s.endCycle).source = s.source := rfl
@[simp] theorem State.endCycle_tick (s : State) : (s.endCycle).tick = s.tick + 1 := rfl
@[simp] theorem State.endCycle_epoch (s : State) : (s.endCycle).epoch = s.epoch := rfl

/-! ### Observations of the state after an update -/

@[simp] theorem State.setFlag_ready (s : State) (f : Flag) : (s.setFlag f).ready = s.ready := rfl
@[simp] theorem State.countPeriod_ready (s : State) : s.countPeriod.ready = s.ready := rfl
@[simp] theorem State.raiseFatal_ready (s : State) (e : Fatal) (p : Word) : (s.raiseFatal e p).ready = false := rfl
@[simp] theorem State.finish_ready (s : State) : s.finish.ready = false := rfl
@[simp] theorem State.endCycle_ready (s : State) : s.endCycle.ready = s.ready := rfl
@[simp] theorem State.setFlag_bufRead (s : State) (f : Flag) (a : Nat) : (s.setFlag f).bufRead a = s.bufRead a := rfl
@[simp] theorem State.raiseFatal_bufRead (s : State) (e : Fatal) (p : Word) (a : Nat) :
    (s.raiseFatal e p).bufRead a = s.bufRead a := rfl
@[simp] theorem State.nonFatal_bufRead (s : State) (e : NonFatal) (p : Word) (f : Flag) (a : Nat) :
    (s.nonFatal e p f).bufRead a = s.bufRead a := rfl
@[simp] theorem State.enterMarker_bufRead (s : State) (c : Ctl) (a : Nat) : (s.enterMarker c).bufRead a = s.bufRead a := rfl
@[simp] theorem State.enterSeek_bufRead (s : State) (a : Nat) : s.enterSeek.bufRead a = s.bufRead a := rfl
@[simp] theorem State.resumeFindHdr_bufRead (s : State) (a : Nat) : s.resumeFindHdr.bufRead a = s.bufRead a := rfl
@[simp] theorem State.finish_bufRead (s : State) (a : Nat) : s.finish.bufRead a = s.bufRead a := rfl
@[simp] theorem State.countPeriod_bufRead (s : State) (a : Nat) : s.countPeriod.bufRead a = s.bufRead a := rfl
@[simp] theorem State.startBytes_bufRead (s : State) (a : Nat) : s.startBytes.bufRead a = s.bufRead a := rfl

/-- A token leaves the head of the period source's queue and nothing else of the cycle's end changes. -/
theorem State.accept_token (s : State) (w : BitVec 18) :
    s.accept (.token w) = { s.endCycle with source := s.source.tail } := rfl

/-- A bus access leaves the period source as it was. -/
theorem State.accept_bus (s : State) (w : BitVec 10) (d : Word) : s.accept (.bus w d) = s.endCycle := rfl

end Sys2Proof.Machine
end

