-- ==== Sys2Proof/Laws/Ops.lean ====
section
/-! SUPPORT. What each shared operation that may stop can answer: if it answers a next state, then which one, guards included; and
what a raw push can do. -/

namespace Sys2Proof.Machine

/-- A header byte is stored at an index inside `HB`; at the 20th the header is done (44_framing_tape.md R199). -/
theorem deliverHeader_next {b : Byte} {idx : Word} {s t : State} (h : deliverHeader b idx s = .next t) :
    s.ses.byteidx.toNat < 20 ∧
      ((s.ses.byteidx + 1 = 20 ∧ t = headerDone idx (storeHeaderByte b s))
        ∨ (s.ses.byteidx + 1 ≠ 20 ∧ t = storeHeaderByte b s)) := by
  by_cases hlt : Config.hdrLen ≤ s.ses.byteidx.toNat
  · rw [deliverHeader, if_pos hlt] at h; cases h
  · rw [deliverHeader, if_neg hlt] at h
    refine ⟨Nat.lt_of_not_le hlt, ?_⟩
    by_cases h20 : s.ses.byteidx + 1 = 20
    · left; exact ⟨h20, (Host.Outcome.next.inj ((if_pos (c := s.ses.byteidx + 1 = 20) h20).symm.trans h)).symm⟩
    · right; exact ⟨h20, (Host.Outcome.next.inj ((if_neg (c := s.ses.byteidx + 1 = 20) h20).symm.trans h)).symm⟩

/-- A body byte never stops (44_framing_tape.md R202). -/
theorem deliverData_next (b : Byte) (idx : Word) (s : State) :
    deliverData b idx s = .next
      (if s.ses.byteidx + 1 = s.ses.rcd.length then
        { s.bufWrite s.ses.byteidx b with st := .tChecksum, ck := sumUpd s.ck b, ses.byteidx := 0 }
      else { s.bufWrite s.ses.byteidx b with ck := sumUpd s.ck b, ses.byteidx := s.ses.byteidx + 1 }) := by
  by_cases h : s.ses.byteidx + 1 = s.ses.rcd.length
  · rw [if_pos h]; exact if_pos (c := s.ses.byteidx + 1 = s.ses.rcd.length) h
  · rw [if_neg h]; exact if_neg (c := s.ses.byteidx + 1 = s.ses.rcd.length) h

/-- The first checksum byte waits for the second, which finalizes the record (44_framing_tape.md R203). -/
theorem deliverChecksum_first {b : Byte} {idx : Word} {s : State} (h : s.ses.byteidx = 0) :
    deliverChecksum b idx s = .next { s with ses.rcd.rck := b.zeroExtend 16, ses.byteidx := 1 } := by
  simp [deliverChecksum, h]

/-- A block header byte is stored at an index inside `HB`; at the sixth the block header is judged (44_framing_tape.md R212). -/
theorem deliverBlockHeader_next {b : Byte} {idx : Word} {s t : State} (h : deliverBlockHeader b idx s = .next t) :
    s.ses.byteidx.toNat < 20 ∧
      ((s.ses.byteidx + 1 = 6 ∧ blockHeaderDone idx { storeHeaderByte b s with ck := sumUpd s.ck b } = .next t)
        ∨ (s.ses.byteidx + 1 ≠ 6 ∧ t = { storeHeaderByte b s with ck := sumUpd s.ck b })) := by
  by_cases hlt : Config.hdrLen ≤ s.ses.byteidx.toNat
  · rw [deliverBlockHeader, if_pos hlt] at h; cases h
  · rw [deliverBlockHeader, if_neg hlt] at h
    refine ⟨Nat.lt_of_not_le hlt, ?_⟩
    by_cases h6 : s.ses.byteidx + 1 = 6
    · left; exact ⟨h6, (if_pos (c := s.ses.byteidx + 1 = 6) h6).symm.trans h⟩
    · right; exact ⟨h6, (Host.Outcome.next.inj ((if_neg (c := s.ses.byteidx + 1 = 6) h6).symm.trans h)).symm⟩

/-- The judgement of a block header: rejected, re-delivered, or the body follows (44_framing_tape.md R212, R213). -/
theorem blockHeaderDone_next {idx : Word} {s t : State} (h : blockHeaderDone idx s = .next t) :
    (blockHeaderOk (latchBlockHeader s) = false ∧ t = ((latchBlockHeader s).nonFatal .h7Hdr idx .h7fail).enterSeek)
    ∨ (blockHeaderOk (latchBlockHeader s) = true ∧ seenIndexOk (latchBlockHeader s) = true ∧
        (((latchBlockHeader s).ses.h7.seen.getLsbD ((latchBlockHeader s).ses.h7.bnum.toNat - 1) = true
            ∧ t = ((latchBlockHeader s).nonFatal .h7Dup idx .h7dup).enterSeek)
        ∨ ((latchBlockHeader s).ses.h7.seen.getLsbD ((latchBlockHeader s).ses.h7.bnum.toNat - 1) = false
            ∧ t = { latchBlockHeader s with st := .h7ReadBody, ses.byteidx := 0 }))) := by
  unfold blockHeaderDone at h
  simp only at h
  split at h
  · rename_i hok
    left; exact ⟨by simpa using hok, by simpa [eq_comm] using h⟩
  · rename_i hok
    split at h
    · cases h
    · rename_i hseen
      refine Or.inr ⟨by simpa using hok, by simpa using hseen, ?_⟩
      split at h
      · rename_i hs; left; exact ⟨hs, by simpa [eq_comm] using h⟩
      · rename_i hs; right; exact ⟨by simpa using hs, by simpa [eq_comm] using h⟩

/-- A block body byte is stored inside `BUF`; the last one leads to the block checksum (44_framing_tape.md R214). -/
theorem deliverBlockBody_next {b : Byte} {idx : Word} {s t : State} (h : deliverBlockBody b idx s = .next t) :
    blockAddr s < 65536 ∧
      t = (if s.ses.byteidx + 1 = s.ses.h7.blen then
        { s.bufWrite (BitVec.ofNat 16 (blockAddr s)) b with st := .h7Bcksum, ck := sumUpd s.ck b, ses.byteidx := 0 }
      else { s.bufWrite (BitVec.ofNat 16 (blockAddr s)) b with ck := sumUpd s.ck b, ses.byteidx := s.ses.byteidx + 1 }) := by
  by_cases hlt : Config.bufSize ≤ blockAddr s
  · rw [deliverBlockBody, if_pos hlt] at h; cases h
  · rw [deliverBlockBody, if_neg hlt] at h
    refine ⟨Nat.lt_of_not_le hlt, ?_⟩
    by_cases hb : s.ses.byteidx + 1 = s.ses.h7.blen
    · rw [if_pos hb]
      exact (Host.Outcome.next.inj ((if_pos (c := s.ses.byteidx + 1 = s.ses.h7.blen) hb).symm.trans h)).symm
    · rw [if_neg hb]
      exact (Host.Outcome.next.inj ((if_neg (c := s.ses.byteidx + 1 = s.ses.h7.blen) hb).symm.trans h)).symm

/-- An accepted block marks its number seen and counts its bytes; the last one finalizes the file (44_framing_tape.md R216). -/
theorem blockAccepted_next {s t : State} (h : blockAccepted s = .next t) :
    seenIndexOk s = true ∧ ∃ u : State,
      u = State.setFlag { s with
        ses.h7.seen := s.ses.h7.seen ||| BitVec.twoPow 256 (s.ses.h7.bnum.toNat - 1)
        ses.h7.remain := s.ses.h7.remain - s.ses.h7.blen
        ses.h7.owner := if s.ses.h7.ownset then s.ses.h7.owner else s.ses.h7.bown
        ses.h7.ownset := true } .h7blk ∧
      ((u.ses.h7.remain = 0 ∧ t = help7Finalize u) ∨ (u.ses.h7.remain ≠ 0 ∧ t = u.enterSeek)) := by
  by_cases hs : (!seenIndexOk s) = true
  · rw [blockAccepted, if_pos hs] at h; cases h
  · rw [blockAccepted, if_neg hs] at h
    refine ⟨by simpa using hs, _, rfl, ?_⟩
    by_cases hr : s.ses.h7.remain - s.ses.h7.blen = 0
    · left; exact ⟨hr, (Host.Outcome.next.inj ((if_pos (c := s.ses.h7.remain - s.ses.h7.blen = 0) hr).symm.trans h)).symm⟩
    · right; exact ⟨hr, (Host.Outcome.next.inj ((if_neg (c := s.ses.h7.remain - s.ses.h7.blen = 0) hr).symm.trans h)).symm⟩

/-- A block checksum byte: the first waits, the second accepts or discards the block (44_framing_tape.md R215). -/
theorem deliverBlockChecksum_next {b : Byte} {idx : Word} {s t : State} (h : deliverBlockChecksum b idx s = .next t) :
    (s.ses.byteidx = 0 ∧ t = { s with ses.h7.bck := b.zeroExtend 16, ses.byteidx := 1 })
    ∨ (s.ses.byteidx ≠ 0 ∧ ∃ u : State, u = { s with ses.h7.bck := word16 b (s.ses.h7.bck.extractLsb' 0 8) } ∧
        ((u.ses.h7.bck = s.ck ∧ blockAccepted u = .next t)
          ∨ (u.ses.h7.bck ≠ s.ck ∧ t = (u.nonFatal .h7Cksum idx .h7fail).enterSeek))) := by
  unfold deliverBlockChecksum at h
  split at h
  · rename_i h0; left; exact ⟨h0, by simpa [eq_comm] using h⟩
  · rename_i h0
    refine Or.inr ⟨h0, _, rfl, ?_⟩
    simp only at h
    split at h
    · rename_i hc; left; exact ⟨hc, h⟩
    · rename_i hc; right; exact ⟨hc, by simpa [eq_comm] using h⟩

/-- A tape data period never stops: an illegal one is the field's violation, a legal one shifts a bit in (42_demod.md R159). -/
theorem tapeDataPeriod_next (v : Fatal → Word → State → State) (p : Half) (idx : Word) (s : State) :
    tapeDataPeriod v p idx s = .next
      (if tooLong s.ses.thr p then v .bitlong idx s
      else { s with ses.bits.shr := shiftInBit (isOne s.ses.thr p) s.ses.bits.shr, ses.bits.bph := true }) := by
  unfold tapeDataPeriod; split <;> rfl

/-- A tape sync period: the violation, the eighth bit's delivery, or the next bit (42_demod.md R161). -/
theorem tapeSyncPeriod_next {v : Fatal → Word → State → State} {d : Byte → Word → State → Res} {p : Half} {idx : Word}
    {s t : State} (h : tapeSyncPeriod v d p idx s = .next t) :
    (syncOk s.ses.thr p = false ∧ t = v .synclong idx s)
    ∨ (syncOk s.ses.thr p = true ∧ s.ses.bits.bitcnt + 1 = 8
        ∧ d s.ses.bits.shr idx { s with ses.bits.bph := false, ses.bits.bitcnt := 0 } = .next t)
    ∨ (syncOk s.ses.thr p = true ∧ s.ses.bits.bitcnt + 1 ≠ 8
        ∧ t = { s with ses.bits.bph := false, ses.bits.bitcnt := s.ses.bits.bitcnt + 1 }) := by
  unfold tapeSyncPeriod at h
  split at h
  · rename_i hs; left; exact ⟨by simpa using hs, by simpa [eq_comm] using h⟩
  · rename_i hs
    have hs : syncOk s.ses.thr p = true := by simpa using hs
    simp only at h
    split at h
    · rename_i h8; exact Or.inr (Or.inl ⟨hs, h8, h⟩)
    · rename_i h8; exact Or.inr (Or.inr ⟨hs, h8, by simpa [eq_comm] using h⟩)

/-- The seek uses three phases (41_marker.md R144). -/
theorem seekMarker_next {p : Half} {s t : State} (h : seekMarker p s = .next t) :
    (s.ses.mark.ms = .lead ∧ t = seekLead p s) ∨ (s.ses.mark.ms = .sync1 ∧ t = seekSync1 p s)
      ∨ (s.ses.mark.ms = .sync0 ∧ t = seekSync0 p s) := by
  unfold seekMarker at h
  split at h <;> rename_i hm <;> simp_all [eq_comm]

/-- The trailer uses three phases (41_marker.md R145). -/
theorem trailerMarker_next {p : Half} {s t : State} (h : trailerMarker p s = .next t) :
    (s.ses.mark.ms = .lead ∧ t = trailerLead p s) ∨ (s.ses.mark.ms = .sync1 ∧ t = { s with ses.mark.ms := .sync0 })
      ∨ (s.ses.mark.ms = .sync0 ∧ t = trailerDone s) := by
  unfold trailerMarker at h
  split at h <;> rename_i hm <;> simp_all [eq_comm]

/-- One raw bit without a completed byte (42_demod.md R165). -/
theorem pushRaw_bit {d : Byte → Word → State → State} {idx : Word} {r : Bool} {rs : List Bool} {s : State}
    (h : s.ses.rawb.rawcnt + 1 ≠ 16) :
    pushRaw d idx (r :: rs) s = pushRaw d idx rs
      { s with ses.rawb := { raw := s.ses.rawb.raw.extractLsb' 0 15 ++ BitVec.ofBool r, rawcnt := s.ses.rawb.rawcnt + 1 } } := by
  exact if_neg (c := s.ses.rawb.rawcnt + 1 = 16) h

/-- The invariant rule of a raw push: what every single bit and every delivery keeps holds after the period (42_demod.md R165). -/
theorem pushRaw_keeps {d : Byte → Word → State → State} {idx : Word} {P : State → Prop}
    (hbit : ∀ (s : State) (r : Bool), P s → s.ses.rawb.rawcnt + 1 ≠ 16 →
      P { s with ses.rawb := { raw := s.ses.rawb.raw.extractLsb' 0 15 ++ BitVec.ofBool r, rawcnt := s.ses.rawb.rawcnt + 1 } })
    (hbyte : ∀ (s : State) (r : Bool), P s → s.ses.rawb.rawcnt + 1 = 16 →
      P (d (dataByte (s.ses.rawb.raw.extractLsb' 0 15 ++ BitVec.ofBool r)) idx
        { s with ses.rawb := { raw := s.ses.rawb.raw.extractLsb' 0 15 ++ BitVec.ofBool r, rawcnt := 0 } })) :
    ∀ (rs : List Bool) (s : State), P s → P (pushRaw d idx rs s)
  | [], _, h => h
  | r :: rs, s, h => by
    unfold pushRaw
    simp only
    split
    · rename_i hn
      have hb := hbyte s r h hn
      split
      · exact pushRaw_keeps hbit hbyte rs _ hb
      · exact hb
    · rename_i hn
      exact pushRaw_keeps hbit hbyte rs _ (hbit s r h hn)

end Sys2Proof.Machine
end

