-- ==== Sys2Proof/Laws/PerInstr.lean ====
section
/-! SUPPORT. Per-instruction families, one lemma for each constructor. -/

namespace Sys2Proof.Laws

/-- The bits that the row of opcode_table.json fixes, read from the pin word that the row's format is presented as: the token
kind (30_encoding.md R91), the `op` of a write to offset 0x04 (R92, R93), the strobes (R94). -/
def TableRow.Statement (i : Instr) : Prop :=
  match i, encode i with
  | .period _, .token w => w.extractLsb' 16 2 = 0
  | .eos, .token w => w.extractLsb' 16 2 = 1
  | .index, .token w => w.extractLsb' 16 2 = 2
  | .rsv, .token w => w.extractLsb' 16 2 = 3
  | .nop, .bus w d => w = 0x204 ∧ d.extractLsb' 0 8 = 0x00
  | .start, .bus w d => w = 0x204 ∧ d.extractLsb' 0 8 = 0x01
  | .abort, .bus w d => w = 0x204 ∧ d.extractLsb' 0 8 = 0x02
  | .next, .bus w d => w = 0x204 ∧ d.extractLsb' 0 8 = 0x03
  | .trkclr, .bus w d => w = 0x204 ∧ d.extractLsb' 0 8 = 0x04
  | .ckinit _, .bus w d => w = 0x204 ∧ d.extractLsb' 0 8 = 0x10
  | .ckbyte _, .bus w d => w = 0x204 ∧ d.extractLsb' 0 8 = 0x11
  | .csrrd _, .bus w _ => w &&& 0x300 = 0x100
  | .csrwr _ _, .bus w _ => w &&& 0x200 = 0x200
  | _, _ => False

theorem TableRow.period (len : Half) : TableRow.Statement (.period len) := by
  show (0#2 ++ len : BitVec 18).extractLsb' 16 2 = 0
  ext i hi
  simp only [BitVec.getElem_extractLsb', BitVec.getLsbD_append]
  simp

theorem TableRow.eos : TableRow.Statement .eos := by
  show (1#2 ++ 0#16 : BitVec 18).extractLsb' 16 2 = 1
  decide

theorem TableRow.index : TableRow.Statement .index := by
  show (2#2 ++ 0#16 : BitVec 18).extractLsb' 16 2 = 2
  decide

theorem TableRow.rsv : TableRow.Statement .rsv := by
  show (3#2 ++ 0#16 : BitVec 18).extractLsb' 16 2 = 3
  decide

/-- The bus word of a command write, and the `op` that its data carries. -/
theorem commandWord_fields (op arg : Byte) :
    (1#1 ++ 0#1 ++ 0x04#8 : BitVec 10) = 0x204 ∧ (0#16 ++ arg ++ op : Word).extractLsb' 0 8 = op := by
  refine ⟨by decide, ?_⟩
  ext i hi
  simp only [BitVec.getElem_extractLsb', BitVec.getLsbD_append]
  simp [hi]

theorem TableRow.nop : TableRow.Statement .nop := commandWord_fields 0x00 0
theorem TableRow.start : TableRow.Statement .start := commandWord_fields 0x01 0
theorem TableRow.abort : TableRow.Statement .abort := commandWord_fields 0x02 0
theorem TableRow.next : TableRow.Statement .next := commandWord_fields 0x03 0
theorem TableRow.trkclr : TableRow.Statement .trkclr := commandWord_fields 0x04 0
theorem TableRow.ckinit (alg : Bool) : TableRow.Statement (.ckinit alg) := commandWord_fields 0x10 _
theorem TableRow.ckbyte (b : Byte) : TableRow.Statement (.ckbyte b) := commandWord_fields 0x11 b

theorem TableRow.csrrd (addr : Byte) : TableRow.Statement (.csrrd addr) := by
  show (0#1 ++ 1#1 ++ addr : BitVec 10) &&& 0x300 = 0x100
  revert addr; decide

theorem TableRow.csrwr (addr : Byte) (data : Word) : TableRow.Statement (.csrwr addr data) := by
  show (1#1 ++ 0#1 ++ addr : BitVec 10) &&& 0x200 = 0x200
  revert addr; decide

end Sys2Proof.Laws
end

