-- ==== Sys2Proof/Tests/Slice0.lean ====
section
/-! SUPPORT. Small tests: ill-formed terms refused, words written out from 30_encoding.md decoded, one step or one operation on a
small state with the result of 95_test_vectors.md or of a hand calculation from the rule, and a witness for the hypotheses of
each statement. -/

namespace Sys2Proof.Tests

open Sys2Proof Sys2Proof.Machine

/-- The next state, if there is one. -/
def after (r : Res) : Option State :=
  match r with
  | .next t => some t
  | .fault _ => none
  | .refused _ => none

/-- A tape session in a control state, with the thresholds of a pilot of unit 10 (95_test_vectors.md section 3: `UNIT 2560`,
`CUTOFF 3840`, `MAXLEN 7680`). -/
def tape (c : Ctl) : State := { State.reset with st := c, ses.thr := ⟨2560, 3840, 7680, true⟩ }

/-- An MFM session in a control state, with the thresholds of a marker at half-cell 10 (`UNIT 5120`). -/
def disk (c : Ctl) : State := { State.reset with st := c, cfg.profile := 2, ses.thr := ⟨5120, 6400, 11520, true⟩ }

/-- A HELP7 session of a file of 5 bytes in blocks of 2 (95_test_vectors.md section 7). -/
def help7 (c : Ctl) : State :=
  { tape c with
    cfg.h7en := true
    cfg.h7blk := 2
    ses.rcd.length := 5
    ses.h7.h7act := true
    ses.h7.nb := 3
    ses.h7.remain := 5 }

/-! ### Well-formedness and decoding -/

/-- A write of a listed command word to `CMD` is no `csrwr`: whatever the low address bits, the argument and the ignored bits. -/
theorem test_illformed_command_writes : Instr.wellFormed (.csrwr 0x04 0x00000001) = false
    ∧ Instr.wellFormed (.csrwr 0x07 0xFFFF0110) = false ∧ Instr.wellFormed (.csrwr 0x05 0) = false := by decide

/-- A reserved `op` and every other offset stay well-formed (30_encoding.md R97). -/
theorem test_wellformed_writes : Instr.wellFormed (.csrwr 0x04 0x00000005) = true
    ∧ Instr.wellFormed (.csrwr 0x08 0x00000001) = true := by decide

/-- Token words `{kind, len}` (30_encoding.md R91). -/
theorem test_decode_period : decode (.token 0b000000000000001010#18) = .ok (.period 10) := by decide
theorem test_decode_period_max : decode (.token 0b001111111111111111#18) = .ok (.period 65535) := by decide
theorem test_decode_eos : decode (.token 0b011010101111001101#18) = .ok .eos := by decide
theorem test_decode_index : decode (.token 0b100000000000000001#18) = .ok .index := by decide
theorem test_decode_rsv : decode (.token 0b110000000000000000#18) = .ok .rsv := by decide

/-- Command words `{ignored, arg, op}` written to offset 0x04, the bus word `{b_we, b_re, b_addr}` (30_encoding.md R92 to R94). -/
theorem test_decode_nop : decode (.bus 0b1000000100#10 0x00000000) = .ok .nop := by rfl
theorem test_decode_start : decode (.bus 0b1000000100#10 0xFFFF5501) = .ok .start := by rfl
theorem test_decode_abort : decode (.bus 0b1000000111#10 0x00000002) = .ok .abort := by rfl
theorem test_decode_next : decode (.bus 0b1100000100#10 0x00000003) = .ok .next := by rfl
theorem test_decode_trkclr : decode (.bus 0b1000000100#10 0x00000004) = .ok .trkclr := by rfl
theorem test_decode_ckinit : decode (.bus 0b1000000100#10 0x00000110) = .ok (.ckinit true) := by rfl
theorem test_decode_ckinit_sum : decode (.bus 0b1000000100#10 0x0000FE10) = .ok (.ckinit false) := by rfl
theorem test_decode_ckbyte : decode (.bus 0b1000000100#10 0x0000A111) = .ok (.ckbyte 0xA1) := by rfl
theorem test_decode_csrrd : decode (.bus 0b0100001000#10 0) = .ok (.csrrd 0x08) := by rfl
theorem test_decode_csrwr : decode (.bus 0b1000001100#10 2) = .ok (.csrwr 0x0C 2) := by rfl

/-- Both strobes are a write (10_state.md R21); a reserved `op` leaves the write; no strobe is no operation. -/
theorem test_decode_corners : decode (.bus 0b1100001100#10 2) = .ok (.csrwr 0x0C 2)
    ∧ decode (.bus 0b1000000100#10 0x7F) = .ok (.csrwr 0x04 0x7F) ∧ decode (.bus 0b0000001000#10 2) = .error .noStrobe
    ∧ decodeCommand 0x12 = .error (.reservedOp 0x12) := ⟨rfl, rfl, rfl, rfl⟩

/-- The table's words at the widths of its rows. -/
theorem test_table_words : decodeTableWord 24 0x0000A = some (.period 10) ∧ decodeTableWord 24 0x30000 = some .rsv
    ∧ decodeTableWord 32 0x4511 = some (.ckbyte 0x45) ∧ decodeTableWord 16 0x108 = some (.csrrd 8)
    ∧ decodeTableWord 16 0x320 = some (.csrwr 0x20 0) := by decide

/-- An operation placed for the next step is what the step runs: START, and a PERIOD as the first token. -/
theorem test_fetch_start : (after (step (State.reset.withFetchWord 32 0x01))).map (fun t => t.st) = some .tFindPilot := by decide
theorem test_fetch_period : (after (step (State.reset.withFetchWord 24 0x0000A))).map
    (fun t => (t.ses.pilot, t.ses.pos, t.source)) = some (⟨10, 1⟩, 1, []) := by decide

/-! ### Operations -/

/-- The accepted terminal: `200 * P 10`, `P 36` (95_test_vectors.md section 3; 40_calibrator.md R133). -/
theorem test_period_calibrates : (after (exec (.period 36) { State.reset with st := .tFindPilot, ses.pilot := ⟨2000, 200⟩ })).map
    (fun t => (t.st, t.ses.thr)) = some (.tPilotFound, ⟨2560, 3840, 7680, true⟩) := by decide

/-- The byte 0xA5 completed by a sync period of 10: `TBYTE(10, 0xA5)` (42_demod.md R172). -/
theorem test_period_delivers : (after (exec (.period 10) { tape .tReadHdr with ses.bits := ⟨0xA5, 7, true⟩ })).map
    (fun t => (t.ses.hb[0], t.ses.byteidx, t.ses.bits)) = some (0xA5, 1, ⟨0xA5, 0, false⟩) := by decide

/-- EOS in the header marker (41_marker.md R134: code 9, `T_HDR_MARKER`, `POS` unchanged) and in the trailer (R205). -/
theorem test_eos_error : (after (exec .eos { tape .tHdrMarker with ses.mark.ms := .body, ses.pos := 208 })).map
    (fun t => readAt 0x38 t) = some 0x00010409 := by decide
theorem test_eos_trailer : (after (exec .eos (tape .tEndTrailer))).map
    (fun t => (t.st, t.ses.rcd.notrailer, t.evt)) = some (.done, true, 1) := by decide

theorem test_index_saturates : (after (exec .index { tape .tFindPilot with rev := 255 })).map
    (fun t => (t.rev, t.evt, t.ses.pos)) = some (255, 0x800, 0) := by decide
theorem test_rsv_error : (after (exec .rsv (tape .tFindPilot))).map
    (fun t => (t.st, readAt 0x38 t, readAt 0x3C t)) = some (.error, 0x0000010B, 0) := by decide
theorem test_nop : (after (exec .nop (tape .done))).map (fun t => (t.st, t.evt)) = some (.done, 0) := by decide

/-- START with an illegal configuration: `E_CFG`, `ERRST` IDLE (46_commands.md R262). -/
theorem test_start_illegal : (after (exec .start { State.reset with st := .done, cfg.profile := 3 })).map
    (fun t => (t.st, readAt 0x38 t, t.evt)) = some (.error, 10, 2) := by decide
theorem test_start_disk : (after (exec .start { disk .error with ses.pos := 7 })).map
    (fun t => (readAt 0x08 t, t.ses.pos)) = some (0x00010010, 0) := by decide
theorem test_abort : (after (exec .abort { tape .tReadData with ses.pos := 5, ck := 3 })).map
    (fun t => (t.st, t.ses.pos, t.ck, t.evt)) = some (.idle, 0, 3, 0) := by decide
theorem test_next_refused : (after (exec .next State.reset)).map (fun t => (t.st, t.evt)) = some (.idle, 0x400) := by decide
theorem test_next_complete : (after (exec .next { disk .dDeliver with sectOk := 6, cfg.expect := 2 })).map
    (fun t => (t.st, t.evt)) = some (.done, 1) := by decide
theorem test_trkclr : (after (exec .trkclr { State.reset with sectOk := 6, rev := 3, nbad := 2, evt := 1 })).map
    (fun t => (t.sectOk, t.rev, t.nbad, t.evt)) = some (0, 0, 0, 1) := by decide
theorem test_ckinit : (after (exec (.ckinit true) State.reset)).map (fun t => readAt 0x78 t) = some 0x0001FFFF := by decide

/-- `crc_ccitt([A1 A1 A1])` is 0xCDB4, one byte more is 0xB230 (43_checksum.md R181, R187). -/
theorem test_ckbyte : (after (exec (.ckbyte 0xFE) { State.reset with ckalg := true, ck := 0xCDB4 })).map
    (fun t => readAt 0x78 t) = some 0x0001B230 := by decide
theorem test_crc_constants : crcCcitt [0xA1] = 0x443B ∧ crcCcitt [0xA1, 0xA1] = 0x968B
    ∧ crcCcitt [] = 0xFFFF := by decide
theorem test_sum_fold : sumUpd 0xFFFF 1 = 1 ∧ sumUpd 0xFF00 0xFF = 0xFFFF ∧ sumUpd 0xFFFF 0xFF = 0xFF := by decide

theorem test_csrrd_id : (after (exec (.csrrd 0x03) State.reset)).map (fun t => t.bRdata PinCycle.quiet) = some 0x424B0001 := by decide
theorem test_csrrd_bufdata : (after (exec (.csrrd 0x8C) { State.reset with buf := [(65535, 7)], bufaddr := 65535 })).map
    (fun t => (t.rdata, t.bufaddr)) = some (7, 0) := by decide

/-- `WR CFG, 0xFFFFFFFF`: `CFG = 0xF` (46_commands.md R277); `EVT` is write-1-to-clear. -/
theorem test_csrwr_cfg : (after (exec (.csrwr 0x0C 0xFFFFFFFF) State.reset)).map (fun t => readAt 0x0C t) = some 0xF := by decide
theorem test_csrwr_evt : (after (exec (.csrwr 0x24 0x401) { State.reset with evt := 0xC03 })).map
    (fun t => t.evt) = some 0x802 := by decide

/-! ### Witnesses: the hypotheses of each statement are met -/

theorem test_wit_DecodeEncodeRoundTrip : Instr.wellFormed (.period 65535) = true ∧ Instr.wellFormed (.csrwr 0x04 0x7F) = true
    ∧ Instr.wellFormed (.csrwr 0xFF 0) = true := by decide

theorem test_wit_OperationWords : (0x03#8).extractLsb' 2 6 ≠ 1 ∧ (0x08#8).extractLsb' 2 6 ≠ 1 := by decide

/-- A state whose next cycle presents a bus word. -/
def busState : State := { State.reset with pins := [PinCycle.ofBus 0x204 1], source := [10] }

theorem test_wit_StepRunsDecodedOperation : busState.cycle.rst = false ∧ busState.cycle.bWe = true
    ∧ decode (.bus (BitVec.ofBool busState.cycle.bWe ++ BitVec.ofBool busState.cycle.bRe ++ busState.cycle.bAddr)
      busState.cycle.bWdata) = .ok .start := ⟨rfl, rfl, rfl⟩

/-- A state whose next cycle presents a token that is accepted. -/
def tokenState : State := { tape .tFindPilot with source := [0x0000A] }

theorem test_wit_StepRunsDecodedOperation_token : tokenState.cycle.rst = false ∧ tokenState.cycle.bWe = false
    ∧ tokenState.cycle.bRe = false ∧ tokenState.cycle.sValid = true ∧ tokenState.st = .tFindPilot
    ∧ tokenState.source = [0x0000A] ∧ decode (.token 0x0000A) = .ok (.period 10) := ⟨rfl, rfl, rfl, rfl, rfl, rfl, rfl⟩

theorem test_wit_StepRunsDecodedOperation_waits : (disk .dDeliver).cycle.rst = false ∧ (disk .dDeliver).cycle.bWe = false
    ∧ (disk .dDeliver).cycle.bRe = false ∧ (disk .dDeliver).st = .dDeliver := ⟨rfl, rfl, rfl, rfl⟩

theorem test_wit_ResetValues :
    ({ tape .tReadData with pins := [{ PinCycle.quiet with rst := true, bWe := true }] } : State).cycle.rst = true := rfl

/-- A running ordinary tape file, one body byte short of its end, at the sync period of the byte's last bit. -/
def bodyState : State :=
  { tape .tReadData with
    ses.rcd.length := 2
    ses.byteidx := 1
    ses.bits := ⟨0x02, 7, true⟩
    ses.pilot := ⟨2000, 200⟩
    ses.mark := ⟨.sync0, 8, 0⟩
    buf := [(0, 1)]
    ck := 1
    source := [0x0000A] }

theorem bodyState_inv : Inv bodyState where
  buf := by decide
  config := by unfold ConfigInv; decide
  thresholds := by unfold ThresholdInv; decide
  pilot := by unfold PilotInv; decide
  marker := by unfold MarkerInv; decide
  window := by unfold WindowInv; decide
  shifter := by unfold ShifterInv; decide
  byteIndex := by unfold ByteIndexInv; decide
  help7 := by unfold Help7Inv; decide
  record := by unfold RecordInv; decide
  sector := by unfold SectorInv; decide
  error := by unfold ErrorInv; decide

/-- A HELP7 file reading the last byte of its last block, whose region ends the file. -/
def blockState : State :=
  { help7 .h7ReadBody with
    ses.h7.bnum := 3
    ses.h7.blen := 1
    ses.byteidx := 0
    ses.bits := ⟨0x55, 7, true⟩
    ses.mark := ⟨.sync0, 0, 8⟩
    source := [0x0000A] }

theorem blockState_inv : Inv blockState where
  buf := by decide
  config := by unfold ConfigInv; decide
  thresholds := by unfold ThresholdInv; decide
  pilot := by unfold PilotInv; decide
  marker := by unfold MarkerInv; decide
  window := by unfold WindowInv; decide
  shifter := by unfold ShifterInv; decide
  byteIndex := by unfold ByteIndexInv; decide
  help7 := by unfold Help7Inv; decide
  record := by unfold RecordInv; decide
  sector := by unfold SectorInv; decide
  error := by unfold ErrorInv; decide

/-- A sector reading its last payload byte. -/
def sectorState : State :=
  { disk .dReadData with ses.sec.size := 256, ses.sec.sizeCode := 1, ses.sec.hdrCrcOk := true, ses.byteidx := 256 }

theorem sectorState_inv : Inv sectorState where
  buf := by decide
  config := by unfold ConfigInv; decide
  thresholds := by unfold ThresholdInv; decide
  pilot := by unfold PilotInv; decide
  marker := by unfold MarkerInv; decide
  window := by unfold WindowInv; decide
  shifter := by unfold ShifterInv; decide
  byteIndex := by unfold ByteIndexInv; decide
  help7 := by unfold Help7Inv; decide
  record := by unfold RecordInv; decide
  sector := by unfold SectorInv; decide
  error := by unfold ErrorInv; decide

theorem test_wit_StepKeepsInv : Inv bodyState ∧ ∃ t, step bodyState = .next t ∧ t.st = .tChecksum ∧ t.ck = 3 :=
  ⟨bodyState_inv, _, rfl, by decide, by decide⟩

theorem test_wit_InvStepNeverStops : Inv sectorState := sectorState_inv

theorem test_wit_StepKeepsHelp7Books : Inv blockState ∧ Help7Books blockState ∧ blockState.st.isHelp7 = true
    ∧ ∃ t, step blockState = .next t ∧ t.st = .h7Bcksum ∧ t.cfg.h7blk = blockState.cfg.h7blk :=
  ⟨blockState_inv, by unfold Help7Books; decide, by decide, _, rfl, by decide, by decide⟩

/-- The bookkeeping says something in `DONE` too: after the file, all three blocks seen. -/
def help7Done : State := { help7 .done with ses.h7.remain := 0, ses.h7.seen := 7 }

theorem test_wit_StepKeepsHelp7Books_done : help7Done.ses.h7.h7act = true ∧ Help7Books help7Done
    ∧ ∃ t, step help7Done = .next t ∧ t.cfg.h7blk = help7Done.cfg.h7blk :=
  ⟨by decide, by unfold Help7Books; decide, _, rfl, by decide⟩

theorem test_wit_StoresStayInTheFile : Inv bodyState ∧ bodyState.storeAddr = some 1 := ⟨bodyState_inv, by decide⟩
theorem test_wit_StoresStayInTheFile_block : Inv blockState ∧ blockState.storeAddr = some 4 := ⟨blockState_inv, by decide⟩
theorem test_wit_StoresStayInTheFile_disk : Inv sectorState ∧ sectorState.storeAddr = some 255 :=
  ⟨sectorState_inv, by decide⟩

theorem test_wit_OutputPins : PinCycle.quiet.rst = false ∧ ∃ t, exec (.csrrd 0x10) (tape .tReadData) = .next t
    ∧ t.bRdata PinCycle.quiet = 0x04303018 := ⟨rfl, _, rfl, by decide⟩
theorem test_wit_StartEffect : State.reset.st = .idle ∧ (tape .done).st = .done ∧ (disk .error).st = .error
    ∧ (disk .error).cfg.profile = 2 ∧ ({ State.reset with cfg.profile := 1 } : State).cfg.profile = 1 := by decide
theorem test_wit_AbortAndTrkclrEffect : State.reset.st = .idle ∧ (disk .done).st = .done ∧ (disk .error).st = .error := by decide
theorem test_wit_NextEffect : (disk .dDeliver).st = .dDeliver ∧ (disk .dDeliver).ses.eosp = false
    ∧ (disk .dDeliver).cfg.expect = 0 := by decide
theorem test_wit_ChecksumCommands : State.reset.st = .idle ∧ (disk .done).st = .done ∧ (disk .error).st = .error := by decide
theorem test_wit_RefusedCommand : (disk .dDeliver).st.isIdle = false ∧ (tape .tFindPilot).st ≠ .dDeliver
    ∧ (0x07#8).extractLsb' 2 6 = 1
    ∧ (0x05#32).extractLsb' 0 8 ∉ [0x00#8, 0x01#8, 0x02#8, 0x03#8, 0x04#8, 0x10#8, 0x11#8]
    ∧ (0x12#32).extractLsb' 0 8 ∉ [0x00#8, 0x01#8, 0x02#8, 0x03#8, 0x04#8, 0x10#8, 0x11#8] := by decide
theorem test_wit_ConfigurationWrite : State.reset.st = .idle ∧ (tape .done).st = .done ∧ (disk .error).st = .error
    ∧ (0x0C#8).extractLsb' 2 6 = 3 ∧ (0x0F#8).extractLsb' 2 6 = 3 ∧ (0x13#8).extractLsb' 2 6 = 4
    ∧ (0x14#8).extractLsb' 2 6 = 5 ∧ (0x19#8).extractLsb' 2 6 = 6 ∧ (0x1F#8).extractLsb' 2 6 = 7
    ∧ (0x1E#8).extractLsb' 2 6 ≠ (0x0C#8).extractLsb' 2 6 := by decide
theorem test_wit_RegisterWrites : (0x23#8).extractLsb' 2 6 = 8 ∧ (0x24#8).extractLsb' 2 6 = 9 ∧ (0x88#8).extractLsb' 2 6 = 34
    ∧ ((0x0C#8).extractLsb' 2 6).toNat = 3 ∧ ((0x1F#8).extractLsb' 2 6).toNat = 7 ∧ (disk .dDeliver).st.isIdle = false
    ∧ ((0x00#8).extractLsb' 2 6).toNat ∉ [1, 3, 4, 5, 6, 7, 8, 9, 34]
    ∧ ((0x8C#8).extractLsb' 2 6).toNat ∉ [1, 3, 4, 5, 6, 7, 8, 9, 34]
    ∧ ((0xFF#8).extractLsb' 2 6).toNat ∉ [1, 3, 4, 5, 6, 7, 8, 9, 34] := by decide
theorem test_wit_CommandWriteIsTheCommand : (0x06#8).extractLsb' 2 6 = 1 ∧ decodeCommand 0xFFFF5511 = .ok (.ckbyte 0x55) :=
  ⟨rfl, rfl⟩
theorem test_wit_IndexEffect : (disk .dFindHdr).ready = true ∧ (tape .tEndTrailer).ready = true := by decide
theorem test_wit_ReservedTokenAndZeroPeriod : (tape .h7Seek).ready = true ∧ (disk .dReadData).ready = true := by decide
theorem test_wit_EosEffect : (tape .tFindPilot).st = .tFindPilot ∧ (tape .tEndTrailer).st = .tEndTrailer
    ∧ (help7 .h7Bcksum).st.isTape = true ∧ (disk .dFindData).st = .dFindData ∧ (disk .dReadData).st = .dReadData := by decide
theorem test_wit_PilotPeriod : (tape .tFindPilot).st = .tFindPilot ∧ (1#16) ≠ 0 := by decide
theorem test_wit_UniformPilot : ({ State.reset with st := .tFindPilot } : State).ses.pilot = ⟨0, 0⟩
    ∧ 16 + State.reset.cfg.drift.toNat ≤ State.reset.cfg.longk.toNat
    ∧ State.reset.cfg.longk.toNat * (10#16).toNat < 16 * (36#16).toNat ∧ State.reset.cfg.pilotMin.toNat ≤ 200
    ∧ 199 < State.reset.cfg.pilotMin.toNat := by decide
theorem test_wit_PilotTail : (tape .tPilotFound).st = .tPilotFound ∧ (tape .tPilotFound2).st = .tPilotFound2
    ∧ (20#16) ≠ 0 := by decide
theorem test_wit_StrictMarkerPeriod : (tape .tHdrMarker).st = .tHdrMarker ∧ (tape .tBodyMarker).st = .tBodyMarker
    ∧ (tape .tBodyMarker).ses.mark.mcnt ≠ 255 ∧ (10#16) ≠ 0 := by decide
theorem test_wit_StrictMarkerAccepted : (tape .tHdrMarker).ses.mark.ms = .lead
    ∧ (List.replicate 8 (15#16)).length = 8
    ∧ (∀ z ∈ List.replicate 8 (15#16), z ≠ 0 ∧ z.toNat * 256 ≤ (tape .tHdrMarker).ses.thr.cutoff.toNat)
    ∧ (tape .tHdrMarker).ses.thr.cutoff.toNat < (40#16).toNat * 256
    ∧ (tape .tHdrMarker).ses.thr.cutoff.toNat < (30#16).toNat * 256
    ∧ (30#16).toNat * 256 ≤ (tape .tHdrMarker).ses.thr.maxlen.toNat ∧ (14#16) ≠ 0
    ∧ (14#16).toNat * 256 < (tape .tHdrMarker).ses.thr.cutoff.toNat := by simp [tape, State.reset, Session.zero]
theorem test_wit_SeekAndTrailerPeriod : (help7 .h7Seek).st = .h7Seek ∧ (help7 .h7Seek).ses.mark.ms = .lead
    ∧ (tape .tEndTrailer).st = .tEndTrailer ∧ (tape .tEndTrailer).ses.mark.ms = .lead ∧ (1#16) ≠ 0 := by decide
theorem test_wit_TapeBitCell : bodyState.st.isTapeByte = true ∧ bodyState.ses.bits.bph = true
    ∧ (tape .tReadHdr).st.isTapeByte = true ∧ (tape .tReadHdr).ses.bits.bph = false ∧ (10#16) ≠ 0 := by decide
theorem test_wit_TapeByteRoundTrip : (tape .tReadHdr).st.isTapeByte = true ∧ (tape .tReadHdr).ses.bits.bph = false
    ∧ (tape .tReadHdr).ses.bits.bitcnt = 0 ∧ 1 ≤ (10#16).toNat ∧ (10#16).toNat ≤ 32767
    ∧ (tape .tReadHdr).ses.thr.cutoff.toNat = 384 * (10#16).toNat
    ∧ (tape .tReadHdr).ses.thr.maxlen.toNat = 768 * (10#16).toNat := by decide
theorem test_wit_HeaderByte : ((tape .tReadHdr).cfg.h7en = true → (tape .tReadHdr).cfg.h7blk ≠ 0)
    ∧ ({ help7 .tReadHdr with ses.byteidx := 18 } : State).ses.byteidx.toNat < 19
    ∧ ({ help7 .tReadHdr with ses.byteidx := 19 } : State).ses.byteidx = 19 ∧ (help7 .tReadHdr).cfg.h7blk ≠ 0 := by decide
theorem test_wit_OrdinaryFileBytes : (tape .tChecksum).ses.byteidx = 0
    ∧ ({ tape .tChecksum with ses.byteidx := 1 } : State).ses.byteidx ≠ 0 := by decide
theorem test_wit_BlockHeaderByte : (help7 .h7ReadBhdr).ses.h7.nb.toNat ≤ 256
    ∧ ({ help7 .h7ReadBhdr with ses.byteidx := 4 } : State).ses.byteidx.toNat < 5
    ∧ ({ help7 .h7ReadBhdr with ses.byteidx := 5 } : State).ses.byteidx = 5 := by decide
theorem test_wit_BlockBodyByte :
    (blockState.ses.h7.bnum.toNat - 1) * blockState.cfg.h7blk.toNat + blockState.ses.byteidx.toNat < 65536 := by decide
theorem test_wit_BlockChecksumByte : 1 ≤ blockState.ses.h7.bnum.toNat ∧ blockState.ses.h7.bnum.toNat ≤ 256
    ∧ blockState.ses.byteidx = 0 ∧ ({ blockState with ses.byteidx := 1 } : State).ses.byteidx ≠ 0 := by decide
theorem test_wit_FindMarkerPeriod : (disk .dFindHdr).st = .dFindHdr ∧ (disk .dFindData).st = .dFindData
    ∧ (20#16) ≠ 0 := by decide
theorem test_wit_ExactMarkerCalibrates : (disk .dFindHdr).ses.win = ⟨Vector.replicate 15 0, 0, 0⟩ ∧ 1 ≤ (10#16).toNat
    ∧ (10#16).toNat ≤ 16383 ∧ (16383#16).toNat ≤ 16383 := by decide

/-- Raw bits: 10 and an interval of 2 stay below sixteen; 14 and an interval of 3 complete a byte and carry one bit. -/
theorem test_wit_DiskInterval : (disk .dReadHdr).st = .dReadHdr ∧ (20#16) ≠ 0
    ∧ 3 * (disk .dReadHdr).ses.thr.unit.toNat ≤ 1024 * (15#16).toNat
    ∧ 1024 * (45#16).toNat ≤ 9 * (disk .dReadHdr).ses.thr.unit.toNat
    ∧ ({ disk .dReadHdr with ses.rawb := ⟨1, 10⟩ } : State).ses.rawb.rawcnt.toNat + halfCells 5120 24 < 16
    ∧ 16 ≤ ({ disk .dReadHdr with ses.rawb := ⟨1, 14⟩ } : State).ses.rawb.rawcnt.toNat + halfCells 5120 25 := by decide
theorem test_wit_BadDiskPeriod : 1024 * (14#16).toNat < 3 * (disk .dReadHdr).ses.thr.unit.toNat
    ∧ 9 * (disk .dReadData).ses.thr.unit.toNat < 1024 * (46#16).toNat ∧ (14#16) ≠ 0 := by decide
theorem test_wit_SectorHeaderByte : (disk .dReadHdr).ses.byteidx = 0
    ∧ ({ disk .dReadHdr with ses.byteidx := 6 } : State).ses.byteidx = 6 := by decide
theorem test_wit_SectorDataByte : ({ sectorState with ses.byteidx := 0 } : State).ses.byteidx = 0
    ∧ 1 ≤ sectorState.ses.byteidx.toNat ∧ sectorState.ses.byteidx.toNat ≤ sectorState.ses.sec.size.toNat
    ∧ ({ sectorState with ses.byteidx := 257 } : State).ses.byteidx.toNat = sectorState.ses.sec.size.toNat + 1
    ∧ ({ sectorState with ses.byteidx := 258 } : State).ses.byteidx.toNat = sectorState.ses.sec.size.toNat + 2 := by decide

theorem test_wit_EventFlagsAreSticky : ∃ t, exec .rsv { tape .tFindPilot with evt := 0x800 } = .next t ∧ t.evt = 0x802 :=
  ⟨_, rfl, by decide⟩
theorem test_wit_PositionCountsPeriods : ∃ t, exec (.period 10) { tape .tFindPilot with ses.pos := 0xFFFFFFFF } = .next t
    ∧ t.ses.pos = 0 := ⟨_, rfl, by decide⟩
theorem test_wit_ConfigurationFrozen : ∃ t, exec (.csrwr 0x1C 5) State.reset = .next t ∧ t.cfg ≠ State.reset.cfg :=
  ⟨_, rfl, by decide⟩
theorem test_wit_TerminalErrorsArePrecise : (tape .tPilotFound).ready = true
    ∧ ∃ t, exec (.period 15) (tape .tPilotFound) = .next t ∧ t.st = .error ∧ t.ses.err.errcode = 8 :=
  ⟨by decide, _, rfl, by decide, by decide⟩

/-- A HELP7 header with `LENGTH = 0`: `E_H7GEOM` in `T_READ_HDR`. -/
theorem test_wit_TerminalErrorsArePrecise_geometry :
    ∃ t, exec (.period 10) { help7 .tReadHdr with ses.byteidx := 19, ses.bits := ⟨0, 7, true⟩ } = .next t
      ∧ t.st = .error ∧ t.ses.err.errcode = 13 := ⟨_, rfl, by decide, by decide⟩
theorem test_wit_MemoryFrame : ∃ t, exec (.period 10) bodyState = .next t ∧ bodyState.storeAddr ≠ some 0
    ∧ t.bufRead 0 = 1 ∧ t.bufRead 1 = 2 := ⟨_, rfl, by decide, by decide, by decide⟩

/-- The last CRC byte of a valid sector 1. -/
theorem test_wit_SectorBitmapChanges :
    ∃ t, exec (.period 20) { sectorState with
        ses.byteidx := 258, ses.sec.number := 1, ck := 0x0001, ses.sec.dcrcRd := 0, ses.rawb := ⟨0, 14⟩ } = .next t
      ∧ t.st = .dDeliver ∧ t.ses.sec.svalid = true ∧ t.sectOk = 2 := ⟨_, rfl, by decide, by decide, by decide⟩
theorem test_wit_TokensAndHostFrames : Instr.isToken .index = true ∧ (0x0C#8).extractLsb' 2 6 ≠ 1
    ∧ ∃ t, exec .index (tape .tFindPilot) = .next t := ⟨by decide, by decide, _, rfl⟩
theorem test_wit_HoldStatesKeepResults : (disk .dDeliver).st = .dDeliver ∧ Instr.command .start = some .start
    ∧ ∃ t, exec .start (disk .dDeliver) = .next t ∧ t.evt = 0x400 := ⟨by decide, by decide, _, rfl, by decide⟩
theorem test_wit_InterruptDoesNotAffectDecoding :
    ({ tape .tFindPilot with ien := 0, evt := 0 } : State) = { { tape .tFindPilot with ien := 7 } with ien := 0, evt := 0 }
      ∧ ∃ t, exec (.period 10) (tape .tFindPilot) = .next t := ⟨rfl, _, rfl⟩

end Sys2Proof.Tests
end

namespace Sys2Proof.Machine

/-! SUPPORT and certificates: the state and its registers. First the register map, then the invariant of every step, what
tokens and host accesses leave alone, and the layout of every register. -/

/-! ## The register map -/

/-- The word index of a register: its byte offset without the low two bits (10_state.md R50). -/
def Csr.word : Csr → BitVec 6
  | .id => 0
  | .cmd => 1
  | .status => 2
  | .cfg => 3
  | .coef => 4
  | .limit => 5
  | .h7cfg => 6
  | .expect => 7
  | .ien => 8
  | .evt => 9
  | .unit => 10
  | .cutoff => 11
  | .maxlen => 12
  | .pos => 13
  | .err => 14
  | .errpos => 15
  | .lastev => 16
  | .lastevpos => 17
  | .record => 18
  | .recck => 19
  | .name0 => 20
  | .name1 => 21
  | .name2 => 22
  | .name3 => 23
  | .sechdr => 24
  | .secstat => 25
  | .hdrcrc => 26
  | .datcrc => 27
  | .sectok => 28
  | .counts => 29
  | .ckreg => 30
  | .h7stat => 31
  | .h7blki => 32
  | .h7own => 33
  | .bufaddr => 34
  | .bufdata => 35

/-- An offset selects the register whose word index it carries. -/
theorem csrAt_eq_some_iff {addr : Byte} {r : Csr} : csrAt addr = some r ↔ addr.extractLsb' 2 6 = r.word := by
  constructor
  · intro h
    unfold csrAt at h
    split at h <;> cases h <;> exact BitVec.eq_of_toNat_eq ‹_›
  · intro h
    cases r <;> simp [csrAt, h, Csr.word]

/-- The offsets from 0x90 on are unmapped. -/
theorem csrAt_unmapped {addr : Byte} (h : 0x90 ≤ addr.toNat) : csrAt addr = none := by
  rw [Option.eq_none_iff_forall_ne_some]
  intro r hr
  have hlt := addr.isLt
  have hword := congrArg BitVec.toNat (csrAt_eq_some_iff.1 hr)
  have hle : r.word.toNat ≤ 35 := by cases r <;> decide
  rw [BitVec.extractLsb'_toNat, Nat.shiftRight_eq_div_pow] at hword
  omega

section
variable {s : State} {addr : Byte} {r : Csr}

theorem readAt_of_csrAt (h : csrAt addr = some r) : readAt addr s = readCsr r s := by simp [readAt, h]

theorem writeAt_of_csrAt (h : csrAt addr = some r) (v : Word) : writeAt addr v s = writeCsr r v s := by simp [writeAt, h]

theorem readAt_unmapped (h : csrAt addr = none) : readAt addr s = 0 := by simp [readAt, h]

end

/-! ### What a register access can do -/

theorem State.isIdle_iff {s : State} : s.st.isIdle = true ↔ s.st = .idle ∨ s.st = .done ∨ s.st = .error := by
  simp [Ctl.isIdle, or_assoc]

/-- `READY` names the states that accept a token (10_state.md R52). -/
theorem State.ready_iff {s : State} :
    s.ready = true ↔ s.st ≠ .idle ∧ s.st ≠ .done ∧ s.st ≠ .error ∧ s.st ≠ .dDeliver := by
  simp [State.ready, Ctl.isHold, Ctl.isIdle, and_assoc]

/-- A write to a locked register: the configuration while idle, else the refusal (10_state.md R67 (a)). -/
theorem lockedWrite_cases (f : ConfigRegs → ConfigRegs) (s : State) :
    (s.st.isIdle = true ∧ lockedWrite f s = { s with cfg := f s.cfg })
      ∨ (s.st.isIdle = false ∧ lockedWrite f s = s.refuse) := by
  unfold lockedWrite
  split <;> simp_all

/-- A write to `CMD` is one of the commands, as the decoder reads its word, or refused (46_commands.md R256, R257). -/
theorem commandWrite_cases (w : Word) (s : State) :
    (decodeCommand w = .ok .nop ∧ commandWrite w s = cmdNop s)
      ∨ (decodeCommand w = .ok .start ∧ commandWrite w s = cmdStart s)
      ∨ (decodeCommand w = .ok .abort ∧ commandWrite w s = cmdAbort s)
      ∨ (decodeCommand w = .ok .next ∧ commandWrite w s = cmdNext s)
      ∨ (decodeCommand w = .ok .trkclr ∧ commandWrite w s = cmdTrkclr s)
      ∨ (∃ alg, decodeCommand w = .ok (.ckinit alg) ∧ commandWrite w s = cmdCkinit alg s)
      ∨ (∃ b, decodeCommand w = .ok (.ckbyte b) ∧ commandWrite w s = cmdCkbyte b s)
      ∨ (∃ r, decodeCommand w = .error r ∧ commandWrite w s = s.refuse) := by
  unfold decodeCommand
  split
  case h_1 hop => exact .inl ⟨rfl, by simp only [commandWrite, hop]⟩
  case h_2 hop => exact .inr (.inl ⟨rfl, by simp only [commandWrite, hop]⟩)
  case h_3 hop => exact .inr (.inr (.inl ⟨rfl, by simp only [commandWrite, hop]⟩))
  case h_4 hop => exact .inr (.inr (.inr (.inl ⟨rfl, by simp only [commandWrite, hop]⟩)))
  case h_5 hop => exact .inr (.inr (.inr (.inr (.inl ⟨rfl, by simp only [commandWrite, hop]⟩))))
  case h_6 hop => exact .inr (.inr (.inr (.inr (.inr (.inl ⟨_, rfl, by simp only [commandWrite, hop]⟩)))))
  case h_7 hop => exact .inr (.inr (.inr (.inr (.inr (.inr (.inl ⟨_, rfl, by simp only [commandWrite, hop]⟩))))))
  case h_8 =>
    refine .inr (.inr (.inr (.inr (.inr (.inr (.inr ⟨_, rfl, ?_⟩))))))
    unfold commandWrite
    split
    case h_8 => rfl
    all_goals contradiction

/-- What a register write can do (10_state.md R67). -/
theorem writeAt_cases (addr : Byte) (v : Word) (s : State) :
    (csrAt addr = some .cmd ∧ writeAt addr v s = commandWrite v s)
      ∨ (∃ f, writeAt addr v s = lockedWrite f s)
      ∨ (∃ x, writeAt addr v s = { s with ien := x })
      ∨ (csrAt addr = some .evt ∧ ∃ x, writeAt addr v s = { s with evt := x })
      ∨ (∃ x, writeAt addr v s = { s with bufaddr := x })
      ∨ writeAt addr v s = s := by
  unfold writeAt
  split
  · rename_i r hr
    cases r
    case cmd => exact .inl ⟨hr, rfl⟩
    case cfg | coef | limit | h7cfg | expect => exact .inr (.inl ⟨_, rfl⟩)
    case ien => exact .inr (.inr (.inl ⟨_, rfl⟩))
    case evt => exact .inr (.inr (.inr (.inl ⟨hr, _, rfl⟩)))
    case bufaddr => exact .inr (.inr (.inr (.inr (.inl ⟨_, rfl⟩))))
    all_goals exact .inr (.inr (.inr (.inr (.inr rfl))))
  · exact .inr (.inr (.inr (.inr (.inr rfl))))

/-- A register read changes what the host sees only. -/
theorem readEffect_eq (addr : Byte) (s : State) :
    readEffect addr s = { s with bufaddr := if csrAt addr = some .bufdata then s.bufaddr + 1 else s.bufaddr } := by
  unfold readEffect; split <;> rfl

end Sys2Proof.Machine

namespace Sys2Proof.Machine

/-! ## The invariant, control state by control state -/

/-- The clauses of `Inv` that hold whatever `ST` is. -/
structure DataInv (s : State) : Prop where
  buf : Memory.wf s.buf = true
  unset : s.ses.thr.calok = false → s.ses.thr.unit = 0 ∧ s.ses.thr.cutoff = 0 ∧ s.ses.thr.maxlen = 0
  pilot : PilotInv s
  window : WindowInv s
  shifter : ShifterInv s
  inactive : s.ses.h7.h7act = false → s.ses.h7.seen = 0 ∧ s.ses.h7.ownset = false
  verdict : s.ses.rcd.isFinal = true → s.ses.rcd.valid = (s.ses.rcd.rck == s.ses.rcd.cck)
  noVerdict : s.ses.rcd.isFinal = false → s.ses.rcd.valid = false
  size : s.ses.sec.size = 0 ∨ s.ses.sec.size = 256 ∨ s.ses.sec.size = 512 ∨ s.ses.sec.size = 1024
  errcode : s.ses.err.errcode.toNat ≤ 13
  nfcode : s.ses.err.nfcode.toNat ≤ 13

/-- What every state of a running session has: a legal configuration, and no result of its end. -/
structure Running (s : State) : Prop where
  legal : s.cfg.illegal = false
  trailer : s.ses.rcd.notrailer = false
  noError : s.ses.err.errcode = 0

/-- The ordinary file of a tape session, up to its trailer. -/
structure TapeFile (s : State) : Prop extends Running s where
  profile : s.cfg.profile = 0
  noEos : s.ses.eosp = false
  ordinary : s.ses.h7.h7act = false

/-- The HELP7 file of a tape session: the geometry of 44_framing_tape.md R207. -/
structure BlockFile (s : State) : Prop extends Running s where
  profile : s.cfg.profile = 0
  enabled : s.cfg.h7en = true
  noEos : s.ses.eosp = false
  notFinal : s.ses.rcd.isFinal = false
  calok : s.ses.thr.calok = true
  active : s.ses.h7.h7act = true
  nb : s.ses.h7.nb.toNat = blockCount s.ses.rcd.length.toNat s.cfg.h7blk.toNat
  nb_pos : 1 ≤ s.ses.h7.nb.toNat
  nb_le : s.ses.h7.nb.toNat ≤ 256

/-- A running MFM session. -/
structure DiskRun (s : State) : Prop extends Running s where
  profile : s.cfg.profile = 2
  notFinal : s.ses.rcd.isFinal = false

/-- The marker count of the strict marker, phase by phase (41_marker.md R138 to R140). -/
def StrictCount (m : MarkerRegs) : Prop :=
  (m.ms = .lead → m.mcnt = 0) ∧ (m.ms = .body → 1 ≤ m.mcnt.toNat ∧ m.mcnt.toNat ≤ 7)
    ∧ (m.ms ≠ .lead → m.ms ≠ .body → m.mcnt = 8)

/-- The phases of the seek and the trailer (41_marker.md R144, R145). -/
def ThreePhases (m : MarkerRegs) : Prop := m.ms ≠ .body ∧ m.ms ≠ .final

/-- The header of the block being read was accepted, and the block is not a repeat (44_framing_tape.md R212, R213). -/
def BlockOpen (s : State) : Prop :=
  blockHeaderOk s = true ∧ s.ses.h7.seen.getLsbD (s.ses.h7.bnum.toNat - 1) = false

/-- What `D_DELIVER` shows the host (45_framing_disk.md R241, R244). -/
def Delivered (c : Sector) : Prop :=
  c.svalid = (c.hdrCrcOk && c.sizeOk && c.dataCrcOk) ∧ c.sizeOk = (c.slen == c.size) ∧ c.slen.toNat ≤ c.size.toNat

/-- The clauses of `Inv` that a control state adds. -/
def CtlInv (c : Ctl) (s : State) : Prop :=
  match c with
  | .idle =>
    s.ses.rcd.isFinal = false ∧ s.ses.rcd.notrailer = false ∧ s.ses.eosp = false ∧ s.ses.err.errcode = 0
  | .done => s.ses.err.errcode = 0
  | .error => s.ses.err.errcode ≠ 0 ∧ s.ses.rcd.notrailer = false ∧ s.ses.eosp = false
  | .tFindPilot => TapeFile s ∧ s.ses.rcd.isFinal = false
  | .tPilotFound | .tPilotFound2 => TapeFile s ∧ s.ses.rcd.isFinal = false ∧ s.ses.thr.calok = true
  | .tHdrMarker | .tBodyMarker =>
    TapeFile s ∧ s.ses.rcd.isFinal = false ∧ s.ses.thr.calok = true ∧ StrictCount s.ses.mark
  | .tReadHdr => TapeFile s ∧ s.ses.rcd.isFinal = false ∧ s.ses.thr.calok = true ∧ s.ses.byteidx.toNat < 20
  | .tReadData =>
    TapeFile s ∧ s.ses.rcd.isFinal = false ∧ s.ses.thr.calok = true
      ∧ s.ses.byteidx.toNat < s.ses.rcd.length.toNat
  | .tChecksum => TapeFile s ∧ s.ses.rcd.isFinal = false ∧ s.ses.thr.calok = true ∧ s.ses.byteidx.toNat ≤ 1
  | .tEndTrailer => TapeFile s ∧ s.ses.rcd.isFinal = true ∧ s.ses.thr.calok = true ∧ ThreePhases s.ses.mark
  | .h7Seek => BlockFile s ∧ ThreePhases s.ses.mark
  | .h7ReadBhdr => BlockFile s ∧ s.ses.byteidx.toNat < 6
  | .h7ReadBody => BlockFile s ∧ BlockOpen s ∧ s.ses.byteidx.toNat < s.ses.h7.blen.toNat
  | .h7Bcksum => BlockFile s ∧ BlockOpen s ∧ s.ses.byteidx.toNat ≤ 1
  | .dFindHdr => DiskRun s ∧ s.ses.eosp = false
  | .dReadHdr => DiskRun s ∧ s.ses.eosp = false ∧ s.ses.thr.calok = true ∧ s.ses.byteidx.toNat ≤ 6
  | .dFindData => DiskRun s ∧ s.ses.eosp = false ∧ s.ses.thr.calok = true ∧ s.ses.sec.size ≠ 0
  | .dReadData =>
    DiskRun s ∧ s.ses.eosp = false ∧ s.ses.thr.calok = true ∧ s.ses.sec.size ≠ 0
      ∧ s.ses.byteidx.toNat ≤ s.ses.sec.size.toNat + 2
  | .dDeliver => DiskRun s ∧ s.ses.thr.calok = true ∧ s.ses.sec.size ≠ 0 ∧ Delivered s.ses.sec

/-! ### What a control state's clauses say of its class -/

section
variable {c : Ctl} {s : State}

theorem CtlInv.tapeFile (h : CtlInv c s) (ht : c.isTape = true) (h7 : c.isHelp7 = false) : TapeFile s := by
  cases c <;> simp_all [CtlInv, Ctl.isTape, Ctl.isHelp7]

theorem CtlInv.blockFile (h : CtlInv c s) (h7 : c.isHelp7 = true) : BlockFile s := by
  cases c <;> simp_all [CtlInv, Ctl.isHelp7]

theorem CtlInv.diskRun (h : CtlInv c s) (hd : c.isDisk = true) : DiskRun s := by
  cases c <;> simp_all [CtlInv, Ctl.isDisk]

/-- A control state that is not idle belongs to an ordinary file, a HELP7 file or an MFM session. -/
theorem Ctl.class_of_not_idle (hc : c.isIdle = false) :
    (c.isTape = true ∧ c.isHelp7 = false) ∨ c.isHelp7 = true ∨ c.isDisk = true := by
  revert hc; cases c <;> decide

theorem CtlInv.running (h : CtlInv c s) (hc : c.isIdle = false) : Running s := by
  rcases Ctl.class_of_not_idle hc with ⟨ht, h7⟩ | h7 | hd
  · exact (h.tapeFile ht h7).toRunning
  · exact (h.blockFile h7).toRunning
  · exact (h.diskRun hd).toRunning

theorem CtlInv.calok (h : CtlInv c s) (hc : c.isIdle = false) (hp : c ≠ .tFindPilot) (hh : c ≠ .dFindHdr) :
    s.ses.thr.calok = true := by
  by_cases h7 : c.isHelp7 = true
  · exact (h.blockFile h7).calok
  · cases c <;> simp_all [CtlInv, Ctl.isIdle, Ctl.isHelp7]

theorem CtlInv.notFinal (h : CtlInv c s) (ht : c ≠ .tEndTrailer) (hd : c ≠ .done) (he : c ≠ .error) :
    s.ses.rcd.isFinal = false := by
  by_cases h7 : c.isHelp7 = true
  · exact (h.blockFile h7).notFinal
  by_cases hdisk : c.isDisk = true
  · exact (h.diskRun hdisk).notFinal
  · cases c <;> simp_all [CtlInv, Ctl.isHelp7, Ctl.isDisk]

theorem CtlInv.noEos (h : CtlInv c s) (hv : c ≠ .dDeliver) (hd : c ≠ .done) : s.ses.eosp = false := by
  by_cases h7 : c.isHelp7 = true
  · exact (h.blockFile h7).noEos
  by_cases ht : c.isTape = true
  · exact (h.tapeFile ht (by simpa using h7)).noEos
  · cases c <;> simp_all [CtlInv, Ctl.isTape]

theorem CtlInv.noTrailer (h : CtlInv c s) (hd : c ≠ .done) : s.ses.rcd.notrailer = false := by
  by_cases hi : c.isIdle = false
  · exact (h.running hi).trailer
  · cases c <;> simp_all [CtlInv, Ctl.isIdle]

theorem CtlInv.error_iff (h : CtlInv c s) : c = .error ↔ s.ses.err.errcode ≠ 0 := by
  by_cases hi : c.isIdle = false
  · have hne : c ≠ .error := by rintro rfl; simp [Ctl.isIdle] at hi
    simp [hne, (h.running hi).noError]
  · cases c <;> simp_all [CtlInv, Ctl.isIdle]

end

/-! ### `Inv` is the two together -/

section
variable {s : State}

theorem Inv.data (h : Inv s) : DataInv s where
  buf := h.buf
  unset := h.thresholds.1
  pilot := h.pilot
  window := h.window
  shifter := h.shifter
  inactive := h.help7.2.1
  verdict hf := (h.record.1 hf).2
  noVerdict := h.record.2.1
  size := h.sector.1
  errcode := h.error.2.1
  nfcode := h.error.2.2

theorem Inv.running (h : Inv s) (hi : s.st.isIdle = false) : Running s where
  legal := h.config.1 hi
  trailer := by
    obtain ⟨_, _, htrailer, _⟩ := h.record
    by_contra hn
    have hdone := htrailer (by simpa using hn)
    simp [hdone, Ctl.isIdle] at hi
  noError := by
    by_contra he
    have herr := h.error.1.2 he
    simp [herr, Ctl.isIdle] at hi

theorem Inv.calok (h : Inv s) (hi : s.st.isIdle = false) (hp : s.st ≠ .tFindPilot) (hh : s.st ≠ .dFindHdr) :
    s.ses.thr.calok = true := h.thresholds.2 hi hp hh

theorem Inv.notFinal (h : Inv s) (ht : s.st ≠ .tEndTrailer) (hd : s.st ≠ .done) (he : s.st ≠ .error) :
    s.ses.rcd.isFinal = false := by
  by_contra hf
  rcases (h.record.1 (by simpa using hf)).1 with h1 | h1 | h1
  · exact ht h1
  · exact hd h1
  · exact he h1

theorem Inv.noEos (h : Inv s) (hv : s.st ≠ .dDeliver) (hd : s.st ≠ .done) : s.ses.eosp = false := by
  obtain ⟨_, _, _, heos⟩ := h.sector
  by_contra he
  rcases heos (by simpa using he) with h1 | h1
  · exact hv h1
  · exact hd h1

theorem Ctl.not_idle_of_tape {c : Ctl} (h : c.isTape = true) :
    c.isIdle = false ∧ c ≠ .dDeliver ∧ c ≠ .done ∧ c ≠ .error := by
  revert h; cases c <;> decide

theorem Ctl.tape_of_help7 {c : Ctl} (h : c.isHelp7 = true) :
    c.isTape = true ∧ c ≠ .tFindPilot ∧ c ≠ .tEndTrailer ∧ c ≠ .dFindHdr := by
  revert h; cases c <;> decide

theorem Ctl.not_idle_of_disk {c : Ctl} (h : c.isDisk = true) :
    c.isIdle = false ∧ c ≠ .tEndTrailer ∧ c ≠ .done ∧ c ≠ .error := by
  revert h; cases c <;> decide

theorem Inv.tapeFile (h : Inv s) (ht : s.st.isTape = true) (h7 : s.st.isHelp7 = false) : TapeFile s := by
  obtain ⟨hi, hv, hd, _⟩ := Ctl.not_idle_of_tape ht
  exact { h.running hi with profile := h.config.2.1 ht, noEos := h.noEos hv hd, ordinary := h.help7.1 ht h7 }

theorem Inv.blockFile (h : Inv s) (h7 : s.st.isHelp7 = true) : BlockFile s := by
  obtain ⟨ht, hp, htr, hh⟩ := Ctl.tape_of_help7 h7
  obtain ⟨hi, hv, hd, he⟩ := Ctl.not_idle_of_tape ht
  obtain ⟨_, hprofile, _, henabled⟩ := h.config
  obtain ⟨_, _, hgeometry, _⟩ := h.help7
  obtain ⟨hact, hnb, hpos, hle⟩ := hgeometry h7
  exact { h.running hi with
    profile := hprofile ht
    enabled := henabled h7
    noEos := h.noEos hv hd
    notFinal := h.notFinal htr hd he
    calok := h.calok hi hp hh
    active := hact
    nb := hnb
    nb_pos := hpos
    nb_le := hle }

theorem Inv.diskRun (h : Inv s) (hdisk : s.st.isDisk = true) : DiskRun s := by
  obtain ⟨hi, htr, hd, he⟩ := Ctl.not_idle_of_disk hdisk
  obtain ⟨_, _, hprofile, _⟩ := h.config
  exact { h.running hi with profile := hprofile hdisk, notFinal := h.notFinal htr hd he }

theorem Inv.of_parts (hd : DataInv s) (hc : CtlInv s.st s) : Inv s where
  buf := hd.buf
  config := by
    refine ⟨fun hi => (hc.running hi).legal, fun ht => ?_, fun hdisk => (hc.diskRun hdisk).profile,
      fun h7 => (hc.blockFile h7).enabled⟩
    by_cases h7 : s.st.isHelp7 = true
    · exact (hc.blockFile h7).profile
    · exact (hc.tapeFile ht (by simpa using h7)).profile
  thresholds := ⟨hd.unset, hc.calok⟩
  pilot := hd.pilot
  marker := by cases hst : s.st <;> simp_all [MarkerInv, CtlInv, StrictCount, ThreePhases]
  window := hd.window
  shifter := hd.shifter
  byteIndex := by cases hst : s.st <;> simp_all [ByteIndexInv, CtlInv]
  help7 := by
    refine ⟨fun ht h7 => (hc.tapeFile ht h7).ordinary, hd.inactive, fun h7 => ?_, fun hbody => ?_⟩
    · have hb := hc.blockFile h7
      exact ⟨hb.active, hb.nb, hb.nb_pos, hb.nb_le⟩
    · rcases hbody with hst | hst <;> · rw [hst] at hc; exact hc.2.1
  record := by
    refine ⟨fun hf => ⟨?_, hd.verdict hf⟩, hd.noVerdict, fun hn => ?_, fun hst => ?_⟩
    · by_contra hst
      simp only [not_or] at hst
      simp [hc.notFinal hst.1 hst.2.1 hst.2.2] at hf
    · by_contra hst
      simp [hc.noTrailer hst] at hn
    · rw [hst] at hc; exact hc.2.1
  sector := by
    refine ⟨hd.size, fun hst => ?_, fun hst => ?_, fun he => ?_⟩
    · rcases hst with hst | hst | hst <;> rw [hst] at hc
      · exact hc.2.2.2
      · exact hc.2.2.2.1
      · exact hc.2.2.1
    · rw [hst] at hc; exact hc.2.2.2
    · by_contra hst
      simp only [not_or] at hst
      simp [hc.noEos hst.1 hst.2] at he
  error := ⟨hc.error_iff, hd.errcode, hd.nfcode⟩

theorem Inv.noTrailer (h : Inv s) (hd : s.st ≠ .done) : s.ses.rcd.notrailer = false := by
  obtain ⟨_, _, htrailer, _⟩ := h.record
  by_contra hn
  exact hd (htrailer (by simpa using hn))

theorem Inv.noError (h : Inv s) (he : s.st ≠ .error) : s.ses.err.errcode = 0 := by
  by_contra hc
  exact he (h.error.1.2 hc)

/-- The clauses of the present control state, read off `Inv`. -/
theorem Inv.ctl_at {c : Ctl} (h : Inv s) (hst : s.st = c) : CtlInv c s := by
  have htape := h.tapeFile
  have hblock := h.blockFile
  have hdisk := h.diskRun
  have hcalok := h.calok
  have hfinal := h.notFinal
  have heos := h.noEos
  have htrailer := h.noTrailer
  have hnoerr := h.noError
  obtain ⟨hstrict, hphases⟩ := h.marker
  obtain ⟨hHdr, hData, hCk, hBhdr, hBody, hSec, hPay⟩ := h.byteIndex
  obtain ⟨_, _, _, hopen⟩ := h.help7
  obtain ⟨_, _, _, hended⟩ := h.record
  obtain ⟨_, hsize, hdelivered, _⟩ := h.sector
  obtain ⟨herror, _, _⟩ := h.error
  rw [hst] at *
  cases c with
  | idle => exact ⟨hfinal nofun nofun nofun, htrailer nofun, heos nofun nofun, hnoerr nofun⟩
  | done => exact hnoerr nofun
  | error => exact ⟨herror.1 rfl, htrailer nofun, heos nofun nofun⟩
  | tFindPilot => exact ⟨htape rfl rfl, hfinal nofun nofun nofun⟩
  | tPilotFound | tPilotFound2 => exact ⟨htape rfl rfl, hfinal nofun nofun nofun, hcalok rfl nofun nofun⟩
  | tHdrMarker =>
    exact ⟨htape rfl rfl, hfinal nofun nofun nofun, hcalok rfl nofun nofun, hstrict (.inl rfl)⟩
  | tBodyMarker =>
    exact ⟨htape rfl rfl, hfinal nofun nofun nofun, hcalok rfl nofun nofun, hstrict (.inr rfl)⟩
  | tReadHdr => exact ⟨htape rfl rfl, hfinal nofun nofun nofun, hcalok rfl nofun nofun, hHdr rfl⟩
  | tReadData => exact ⟨htape rfl rfl, hfinal nofun nofun nofun, hcalok rfl nofun nofun, hData rfl⟩
  | tChecksum => exact ⟨htape rfl rfl, hfinal nofun nofun nofun, hcalok rfl nofun nofun, hCk (.inl rfl)⟩
  | tEndTrailer => exact ⟨htape rfl rfl, hended rfl, hcalok rfl nofun nofun, hphases (.inl rfl)⟩
  | h7Seek => exact ⟨hblock rfl, hphases (.inr rfl)⟩
  | h7ReadBhdr => exact ⟨hblock rfl, hBhdr rfl⟩
  | h7ReadBody => exact ⟨hblock rfl, hopen (.inl rfl), hBody rfl⟩
  | h7Bcksum => exact ⟨hblock rfl, hopen (.inr rfl), hCk (.inr rfl)⟩
  | dFindHdr => exact ⟨hdisk rfl, heos nofun nofun⟩
  | dReadHdr => exact ⟨hdisk rfl, heos nofun nofun, hcalok rfl nofun nofun, hSec rfl⟩
  | dFindData => exact ⟨hdisk rfl, heos nofun nofun, hcalok rfl nofun nofun, hsize (.inl rfl)⟩
  | dReadData =>
    exact ⟨hdisk rfl, heos nofun nofun, hcalok rfl nofun nofun, hsize (.inr (.inl rfl)), hPay rfl⟩
  | dDeliver => exact ⟨hdisk rfl, hcalok rfl nofun nofun, hsize (.inr (.inr rfl)), hdelivered rfl⟩

/-- `Inv` of a state whose control state is known. -/
theorem Inv.enter {c : Ctl} (hst : s.st = c) (hd : DataInv s) (hc : CtlInv c s) : Inv s := by
  subst hst; exact Inv.of_parts hd hc

end

end Sys2Proof.Machine

namespace Sys2Proof.Machine

/-! ## Updates that keep the invariant -/

section
variable {s : State}

/-- `Inv` speaks of `ST`, the session, the configuration and `BUF` only. -/
theorem Inv.of_eq {t : State} (h : Inv s) (hst : t.st = s.st) (hses : t.ses = s.ses) (hcfg : t.cfg = s.cfg)
    (hbuf : t.buf = s.buf) : Inv t := by
  cases s; cases t
  simp only at hst hses hcfg hbuf
  subst hst hses hcfg hbuf
  exact { h with }

theorem Inv.setFlag (h : Inv s) (f : Flag) : Inv (s.setFlag f) := h.of_eq rfl rfl rfl rfl

theorem Inv.refuse (h : Inv s) : Inv s.refuse := h.setFlag _

theorem Inv.endCycle (h : Inv s) : Inv s.endCycle := h.of_eq rfl rfl rfl rfl

theorem Inv.accept (h : Inv s) (w : OpWord) : Inv (s.accept w) := by
  cases w <;> exact h.of_eq rfl rfl rfl rfl

theorem Inv.countPeriod (h : Inv s) : Inv s.countPeriod := { h with }

theorem Inv.setBits (h : Inv s) {b : TapeBits} (hb : b.bitcnt.toNat ≤ 7) : Inv { s with ses.bits := b } :=
  { h with shifter := ⟨hb, h.shifter.2⟩ }

theorem Inv.setRaw (h : Inv s) {r : RawBits} (hr : r.rawcnt.toNat ≤ 15) : Inv { s with ses.rawb := r } :=
  { h with shifter := ⟨h.shifter.1, hr⟩ }

theorem Fatal.code_le (e : Fatal) : e.code.toNat ≤ 13 := by cases e <;> decide

theorem Fatal.code_ne_zero (e : Fatal) : e.code ≠ 0 := by cases e <;> decide

theorem NonFatal.code_le (e : NonFatal) : e.code.toNat ≤ 13 := by cases e <;> decide

theorem Inv.nonFatal (h : Inv s) (e : NonFatal) (pos : Word) (f : Flag) : Inv (s.nonFatal e pos f) :=
  { h with error := ⟨h.error.1, h.error.2.1, e.code_le⟩ }

/-- A terminal error records its code and leaves the flags of the record. -/
theorem DataInv.raiseFatal (hd : DataInv s) (ht : s.ses.rcd.notrailer = false) (he : s.ses.eosp = false) (e : Fatal)
    (pos : Word) : Inv (s.raiseFatal e pos) :=
  Inv.enter (c := .error) rfl { hd with errcode := e.code_le } ⟨e.code_ne_zero, ht, he⟩

/-- A token that is accepted may raise any terminal error. -/
theorem Inv.raiseFatal (h : Inv s) (hr : s.ready = true) (e : Fatal) (pos : Word) : Inv (s.raiseFatal e pos) := by
  obtain ⟨_, hd, _, hv⟩ := State.ready_iff.1 hr
  exact h.data.raiseFatal (h.noTrailer hd) (h.noEos hv hd) e pos

/-- DONE may be entered from every state but ERROR. -/
theorem Inv.finish (h : Inv s) (he : s.st ≠ .error) : Inv s.finish :=
  Inv.enter (c := .done) rfl { h.data with } (h.noError he)

theorem windowInv_of_empty (h : s.ses.win = Window.empty) : WindowInv s := by
  unfold WindowInv; rw [h]; decide

/-- The search for a sector header may be entered from every state of an MFM session. -/
theorem Inv.resumeFindHdr (h : Inv s) (hdisk : s.st.isDisk = true) (he : s.ses.eosp = false) : Inv s.resumeFindHdr :=
  Inv.enter (c := .dFindHdr) rfl { h.data with window := windowInv_of_empty rfl } ⟨{ h.diskRun hdisk with }, he⟩

theorem DataInv.enterSeek (hd : DataInv s) (hb : BlockFile s) : Inv s.enterSeek :=
  Inv.enter (c := .h7Seek) rfl { hd with } ⟨{ hb with }, nofun, nofun⟩

/-- The seek may be entered from every HELP7 state. -/
theorem Inv.enterSeek (h : Inv s) (h7 : s.st.isHelp7 = true) : Inv s.enterSeek := h.data.enterSeek (h.blockFile h7)

/-- The cleared session holds nothing: every data clause but the one about `BUF` is of the zero session. -/
theorem DataInv.of_zero {t : State} (hbuf : Memory.wf t.buf = true) (hses : t.ses = Session.zero) : DataInv t where
  buf := hbuf
  unset := by rw [hses]; decide
  pilot := by unfold PilotInv; rw [hses]; decide
  window := by unfold WindowInv; rw [hses]; decide
  shifter := by unfold ShifterInv; rw [hses]; decide
  inactive := by rw [hses]; decide
  verdict := by rw [hses]; decide
  noVerdict := by rw [hses]; decide
  size := by rw [hses]; decide
  errcode := by rw [hses]; decide
  nfcode := by rw [hses]; decide

end

/-! ## Tokens answer a next state with the invariant -/

/-- The meaning answers a next state, and that state has the invariant. -/
def AnswersInv (r : Res) : Prop := ∃ t, r = .next t ∧ Inv t

theorem AnswersInv.next {t : State} (h : Inv t) : AnswersInv (.next t) := ⟨t, rfl, h⟩

section
variable {s : State} {p : Half} {idx : Word}

/-! ### Pilot -/

theorem toNat_pos_of_ne_zero (hp : p ≠ 0) : 0 < p.toNat :=
  Nat.pos_of_ne_zero fun h0 => hp (BitVec.eq_of_toNat_eq h0)

theorem zeroExtend_toNat {n : Nat} (p : Half) (hn : 16 ≤ n) : (p.zeroExtend n).toNat = p.toNat :=
  (BitVec.toNat_setWidth n p).trans (Nat.mod_eq_of_lt (p.isLt.trans_le (Nat.pow_le_pow_right (by decide) hn)))

theorem Inv.pilotSeed (h : Inv s) (hp : p ≠ 0) : Inv (pilotSeed p s) := by
  have hpos := toNat_pos_of_ne_zero hp
  have hlt := p.isLt
  refine { h with pilot := ?_ }
  simp only [PilotInv, Machine.pilotSeed, zeroExtend_toNat p (by decide : 16 ≤ 32), BitVec.ofNat_eq_ofNat,
    BitVec.toNat_ofNat]
  omega

theorem Inv.pilotAccumulate (h : Inv s) (hp : p ≠ 0) : Inv (pilotAccumulate p s) := by
  unfold Machine.pilotAccumulate
  split
  · exact h
  · rename_i hmax
    obtain ⟨hlo, hhi⟩ := h.pilot
    have hpos := toNat_pos_of_ne_zero hp
    have hcnt : s.ses.pilot.cnt.toNat ≠ 65535 := fun h0 => hmax (BitVec.eq_of_toNat_eq h0)
    have hlt := p.isLt
    have hcntlt := s.ses.pilot.cnt.isLt
    have hsum : (s.ses.pilot.sum + p.zeroExtend 32).toNat = s.ses.pilot.sum.toNat + p.toNat := by
      rw [BitVec.toNat_add, zeroExtend_toNat p (by decide)]
      exact Nat.mod_eq_of_lt (by omega)
    have hinc : (s.ses.pilot.cnt + 1).toNat = s.ses.pilot.cnt.toNat + 1 := by
      rw [BitVec.toNat_add]; exact Nat.mod_eq_of_lt (by simp; omega)
    refine { h with pilot := ?_ }
    simp only [PilotInv, hsum, hinc]
    omega

theorem Inv.pilotCalibrate (h : Inv s) (hst : s.st = .tFindPilot) : Inv (pilotCalibrate s) := by
  obtain ⟨hfile, hfinal⟩ := h.ctl_at hst
  exact Inv.enter (c := .tPilotFound) rfl { h.data with unset := nofun } ⟨{ hfile with }, hfinal, rfl⟩

theorem Inv.findPilot (h : Inv s) (hst : s.st = .tFindPilot) (hp : p ≠ 0) : Inv (findPilot p s) := by
  unfold Machine.findPilot
  split
  · exact h.pilotSeed hp
  split
  · exact h.pilotCalibrate hst
  split
  · exact h.pilotAccumulate hp
  · exact h.pilotSeed hp

theorem State.ready_of_st {c : Ctl} (hst : s.st = c) (hc : c.isHold = false) : s.ready = true := by
  simp [State.ready, hst, hc]

theorem Inv.pilotSync1 (h : Inv s) (hst : s.st = .tPilotFound) : Inv (pilotSync1 p idx s) := by
  have hr := State.ready_of_st hst rfl
  unfold Machine.pilotSync1
  split
  · exact h.raiseFatal hr _ _
  split
  · exact h.raiseFatal hr _ _
  · obtain ⟨hfile, hfinal, hcal⟩ := h.ctl_at hst
    exact Inv.enter (c := .tPilotFound2) rfl { h.data with } ⟨{ hfile with }, hfinal, hcal⟩

theorem Inv.pilotSync0 (h : Inv s) (hst : s.st = .tPilotFound2) : Inv (pilotSync0 p idx s) := by
  unfold Machine.pilotSync0
  split
  · exact h.raiseFatal (State.ready_of_st hst rfl) _ _
  · obtain ⟨hfile, hfinal, hcal⟩ := h.ctl_at hst
    exact Inv.enter (c := .tHdrMarker) rfl { h.data with }
      ⟨{ hfile with }, hfinal, hcal, fun _ => rfl, nofun, fun hm => absurd rfl hm⟩

/-! ### Markers of the tape -/

/-- A running ordinary file that enters `T_READ_HDR`. -/
theorem Inv.hdrMarkerDone (h : Inv s) (hst : s.st = .tHdrMarker) : Inv (Machine.hdrMarkerDone s) := by
  obtain ⟨hfile, hfinal, hcal, _⟩ := h.ctl_at hst
  exact Inv.enter (c := .tReadHdr) rfl { h.data with shifter := ⟨Nat.zero_le _, h.shifter.2⟩ }
    ⟨{ hfile with }, hfinal, hcal, Nat.zero_lt_succ _⟩

theorem Inv.bodyMarkerDone (h : Inv s) (hst : s.st = .tBodyMarker) : Inv (bodyMarkerDone s) := by
  obtain ⟨hfile, hfinal, hcal, _⟩ := h.ctl_at hst
  have hdata : DataInv (Machine.bodyMarkerDone s) := { h.data with shifter := ⟨Nat.zero_le _, h.shifter.2⟩ }
  by_cases hlen : s.ses.rcd.length = 0
  · exact Inv.enter (c := .tChecksum) (if_pos hlen) hdata ⟨{ hfile with }, hfinal, hcal, Nat.zero_le _⟩
  · exact Inv.enter (c := .tReadData) (if_neg hlen) hdata ⟨{ hfile with }, hfinal, hcal, toNat_pos_of_ne_zero hlen⟩

/-- The strict marker's phase and count, in whichever of the two states it runs. -/
theorem Inv.strictCount (h : Inv s) (hst : s.st = .tHdrMarker ∨ s.st = .tBodyMarker) : StrictCount s.ses.mark :=
  h.marker.1 hst

/-- A step inside the strict marker keeps the count. -/
theorem Inv.setStrictMark (h : Inv s) (hst : s.st = .tHdrMarker ∨ s.st = .tBodyMarker) {m : MarkerRegs}
    (hm : StrictCount m) : Inv { s with ses.mark := m } := by
  refine { h with marker := ⟨fun _ => hm, fun hother => ?_⟩ }
  rcases hst with hst | hst <;> simp [hst] at hother

theorem satInc_toNat {w : Nat} (v : BitVec w) (h : v.toNat + 1 < 2 ^ w) : (satInc v).toNat = v.toNat + 1 := by
  have hne : v ≠ BitVec.allOnes w := by
    rintro rfl
    simp [BitVec.toNat_allOnes] at h
    omega
  have h1 : 1 % 2 ^ w = 1 := Nat.mod_eq_of_lt (by omega)
  rw [satInc, if_neg hne, BitVec.toNat_add, BitVec.ofNat_eq_ofNat, BitVec.toNat_ofNat, h1, Nat.mod_eq_of_lt h]

theorem Inv.strictMarker {done : State → State} (h : Inv s) (hst : s.st = .tHdrMarker ∨ s.st = .tBodyMarker)
    (hdone : Inv (done s)) : Inv (strictMarker done p idx s) := by
  have hr : s.ready = true := by rcases hst with hst | hst <;> exact State.ready_of_st hst rfl
  obtain ⟨hlead, hbody, hrest⟩ := h.strictCount hst
  cases hm : s.ses.mark.ms <;> simp only [Machine.strictMarker, hm]
  case lead =>
    unfold strictLead; split
    · exact h.raiseFatal hr _ _
    · exact h.setStrictMark hst ⟨nofun, fun _ => ⟨by simp, by simp⟩, fun _ hn => absurd rfl hn⟩
  case body =>
    obtain ⟨h1, h7⟩ := hbody hm
    unfold strictBody; split
    · exact h.raiseFatal hr _ _
    · have hinc := satInc_toNat s.ses.mark.mcnt (by omega)
      refine h.setStrictMark (m := ⟨_, _, _⟩) hst ?_
      by_cases h8 : (satInc s.ses.mark.mcnt).toNat = Config.markN
      · rw [if_pos h8]
        exact ⟨nofun, nofun, fun _ _ => BitVec.eq_of_toNat_eq h8⟩
      · rw [if_neg h8]
        have h8 : (satInc s.ses.mark.mcnt).toNat ≠ 8 := h8
        exact ⟨nofun, fun _ => ⟨by simp only; omega, by simp only; omega⟩, fun _ hn => absurd rfl hn⟩
  case final =>
    have h8 := hrest (by simp [hm]) (by simp [hm])
    unfold strictFinal; split
    · exact h.raiseFatal hr _ _
    · exact h.setStrictMark hst ⟨nofun, nofun, fun _ _ => h8⟩
  case sync1 =>
    have h8 := hrest (by simp [hm]) (by simp [hm])
    unfold strictSync1; split
    · exact h.raiseFatal hr _ _
    split
    · exact h.raiseFatal hr _ _
    · exact h.setStrictMark hst ⟨nofun, nofun, fun _ _ => h8⟩
  case sync0 =>
    unfold strictSync0; split
    · exact h.raiseFatal hr _ _
    · exact hdone

theorem Inv.threePhases (h : Inv s) (hst : s.st = .tEndTrailer ∨ s.st = .h7Seek) : ThreePhases s.ses.mark :=
  h.marker.2 hst

/-- A step inside the seek or the trailer keeps the three phases. -/
theorem Inv.setSeekMark (h : Inv s) (hst : s.st = .tEndTrailer ∨ s.st = .h7Seek) {m : MarkerRegs}
    (hm : ThreePhases m) : Inv { s with ses.mark := m } := by
  refine { h with marker := ⟨fun hother => ?_, fun _ => hm⟩ }
  rcases hst with hst | hst <;> simp [hst] at hother

theorem Inv.seekDone (h : Inv s) (hst : s.st = .h7Seek) : Inv (seekDone s) := by
  obtain ⟨hfile, _⟩ := h.ctl_at hst
  exact Inv.enter (c := .h7ReadBhdr) rfl { h.data with shifter := ⟨Nat.zero_le _, h.shifter.2⟩ }
    ⟨{ hfile with }, Nat.zero_lt_succ _⟩

theorem Inv.seekMarker (h : Inv s) (hst : s.st = .h7Seek) : AnswersInv (seekMarker p s) := by
  have hph := h.threePhases (.inr hst)
  cases hm : s.ses.mark.ms <;> simp only [Machine.seekMarker, hm]
  case lead =>
    refine AnswersInv.next ?_
    unfold seekLead; split
    · exact h.setSeekMark (.inr hst) hph
    split
    · exact h.setSeekMark (.inr hst) ⟨nofun, nofun⟩
    · exact h.setSeekMark (.inr hst) hph
  case sync1 =>
    refine AnswersInv.next ?_
    unfold seekSync1; split
    · exact h.setSeekMark (.inr hst) ⟨nofun, nofun⟩
    · exact h.setSeekMark (m := ⟨_, _, _⟩) (.inr hst) ⟨nofun, nofun⟩
  case sync0 =>
    refine AnswersInv.next ?_
    unfold seekSync0; split
    · exact h.seekDone hst
    · exact h.setSeekMark (.inr hst) ⟨nofun, nofun⟩
  case body => exact absurd hm hph.1
  case final => exact absurd hm hph.2

theorem Inv.trailerMarker (h : Inv s) (hst : s.st = .tEndTrailer) : AnswersInv (trailerMarker p s) := by
  have hph := h.threePhases (.inl hst)
  cases hm : s.ses.mark.ms <;> simp only [Machine.trailerMarker, hm]
  case lead =>
    refine AnswersInv.next ?_
    unfold trailerLead; split
    · exact h.setSeekMark (.inl hst) ⟨nofun, nofun⟩
    · exact h.setSeekMark (.inl hst) hph
  case sync1 => exact AnswersInv.next (h.setSeekMark (.inl hst) ⟨nofun, nofun⟩)
  case sync0 => exact AnswersInv.next (h.finish (by simp [hst]))
  case body => exact absurd hm hph.1
  case final => exact absurd hm hph.2

end

end Sys2Proof.Machine

namespace Sys2Proof.Machine

/-! ### The geometry of HELP7 blocks (44_framing_tape.md R207, R208) -/

/-- The blocks before the last one end below LENGTH, and all of them together reach it. -/
theorem blockCount_bounds {length blk : Nat} (hblk : 0 < blk) (hpos : 1 ≤ blockCount length blk) :
    (blockCount length blk - 1) * blk < length ∧ length ≤ blockCount length blk * blk := by
  have hlow : blockCount length blk * blk ≤ length + blk - 1 := Nat.div_mul_le_self _ _
  have hhigh : length + blk - 1 < blockCount length blk * blk + blk := Nat.lt_div_mul_add hblk
  have hsplit : (blockCount length blk - 1) * blk + blk = blockCount length blk * blk := by
    rw [← Nat.succ_mul, Nat.succ_eq_add_one, Nat.sub_add_cancel hpos]
  omega

/-- Block `k` is not empty, and it lies below LENGTH. -/
theorem explen_bounds {length blk k : Nat} (hblk : 0 < blk) (hk : 1 ≤ k) (hkn : k ≤ blockCount length blk) :
    1 ≤ explen (blockCount length blk) length blk k
      ∧ (k - 1) * blk + explen (blockCount length blk) length blk k ≤ length := by
  obtain ⟨hlast, _⟩ := blockCount_bounds hblk (hk.trans hkn)
  by_cases hlt : k < blockCount length blk
  · have hmono : k * blk ≤ (blockCount length blk - 1) * blk := Nat.mul_le_mul_right _ (by omega)
    have hsplit : (k - 1) * blk + blk = k * blk := by
      rw [← Nat.succ_mul, Nat.succ_eq_add_one, Nat.sub_add_cancel hk]
    rw [explen, if_pos hlt]
    omega
  · have hke : k = blockCount length blk := by omega
    rw [explen, if_neg hlt, hke]
    omega

section
variable {s : State}

/-- The clauses of an accepted block header (44_framing_tape.md R212). -/
theorem blockHeaderOk_iff : blockHeaderOk s = true ↔
    1 ≤ s.ses.h7.bnum.toNat ∧ s.ses.h7.bnum.toNat ≤ s.ses.h7.nb.toNat
      ∧ s.ses.h7.blen.toNat
        = explen s.ses.h7.nb.toNat s.ses.rcd.length.toNat s.cfg.h7blk.toNat s.ses.h7.bnum.toNat
      ∧ ¬(s.ses.h7.ownset = true ∧ s.ses.h7.bown ≠ s.ses.h7.owner) := by
  simp [blockHeaderOk, and_assoc, imp_iff_not_or]

/-- START checked that a HELP7 file has blocks of at least one byte. -/
theorem BlockFile.h7blk_pos (h : BlockFile s) : 0 < s.cfg.h7blk.toNat := by
  have hlegal := h.legal
  simp only [ConfigRegs.illegal, h.profile, h.enabled, Bool.or_eq_false_iff, Bool.and_eq_false_iff] at hlegal
  apply Nat.pos_of_ne_zero
  intro h0
  have : s.cfg.h7blk = 0 := BitVec.eq_of_toNat_eq h0
  simp [this] at hlegal

/-- An accepted block holds a byte and lies below LENGTH. -/
theorem BlockFile.block_bounds (h : BlockFile s) (hok : blockHeaderOk s = true) :
    1 ≤ s.ses.h7.blen.toNat
      ∧ (s.ses.h7.bnum.toNat - 1) * s.cfg.h7blk.toNat + s.ses.h7.blen.toNat ≤ s.ses.rcd.length.toNat := by
  obtain ⟨h1, hle, hlen, _⟩ := blockHeaderOk_iff.1 hok
  rw [hlen, h.nb]
  exact explen_bounds h.h7blk_pos h1 (h.nb ▸ hle)

theorem BlockFile.seenIndexOk (h : BlockFile s) (hok : blockHeaderOk s = true) : seenIndexOk s = true := by
  obtain ⟨h1, hle, _⟩ := blockHeaderOk_iff.1 hok
  simp [Machine.seenIndexOk, h1, hle.trans h.nb_le, Config.h7MaxBlk]

/-- The byte index counts up without wrapping below any bound. -/
theorem byteidx_succ_toNat {i : Half} (h : i.toNat < 65535) : (i + 1).toNat = i.toNat + 1 := by
  rw [BitVec.toNat_add]; exact Nat.mod_eq_of_lt (by simp; omega)

theorem byteidx_succ_lt {i n : Half} (h : i.toNat < n.toNat) (hne : i + 1 ≠ n) : (i + 1).toNat < n.toNat := by
  have hn := n.isLt
  have hsucc := byteidx_succ_toNat (i := i) (by omega)
  have : (i + 1).toNat ≠ n.toNat := fun he => hne (BitVec.eq_of_toNat_eq he)
  omega

end

section
variable {s : State} {b : Byte} {idx : Word}

/-! ### Bytes of an ordinary file -/

/-- The result of a header's byte count: the geometry of a HELP7 file, or `E_H7GEOM` (44_framing_tape.md R207). -/
theorem DataInv.help7Detect (hd : DataInv s) (hf : TapeFile s) (hn : s.ses.rcd.isFinal = false)
    (hc : s.ses.thr.calok = true) (h7 : s.cfg.h7en = true) : Inv (help7Detect idx s) := by
  dsimp only [Machine.help7Detect]
  split
  · apply DataInv.raiseFatal
    exacts [{ hd with inactive := nofun }, hf.trailer, hf.noEos]
  · rename_i hnb
    simp only [not_or, Config.h7MaxBlk, not_lt] at hnb
    obtain ⟨hpos, hle⟩ := hnb
    have hnb : (BitVec.ofNat 9 (blockCount s.ses.rcd.length.toNat s.cfg.h7blk.toNat)).toNat
        = blockCount s.ses.rcd.length.toNat s.cfg.h7blk.toNat := by
      rw [BitVec.toNat_ofNat]; exact Nat.mod_eq_of_lt (by omega)
    exact DataInv.enterSeek { hd with inactive := nofun }
      { legal := hf.legal
        trailer := hf.trailer
        noError := hf.noError
        profile := hf.profile
        enabled := h7
        noEos := hf.noEos
        notFinal := hn
        calok := hc
        active := rfl
        nb := hnb
        nb_pos := (Nat.pos_of_ne_zero hpos).trans_eq hnb.symm
        nb_le := hnb.trans_le hle }

/-- The 20th header byte: the name is latched, then HELP7 is detected or the body marker follows. -/
theorem DataInv.headerDone (hd : DataInv s) (hf : TapeFile s) (hn : s.ses.rcd.isFinal = false)
    (hc : s.ses.thr.calok = true) : Inv (headerDone idx s) := by
  have hlatch : DataInv (latchHeader s) := { hd with }
  dsimp only [Machine.headerDone]
  split
  · rename_i h7
    simp only [isHelp7, Bool.and_eq_true] at h7
    exact hlatch.help7Detect { hf with } hn hc h7.1
  · exact Inv.enter (c := .tBodyMarker) rfl { hlatch with }
      ⟨{ hf with }, hn, hc, fun _ => rfl, nofun, fun hm => absurd rfl hm⟩

theorem Inv.deliverHeader (h : Inv s) (hst : s.st = .tReadHdr) : AnswersInv (deliverHeader b idx s) := by
  obtain ⟨hfile, hfinal, hcal, hidx⟩ := h.ctl_at hst
  have hstore : DataInv (storeHeaderByte b s) := { h.data with }
  rw [Machine.deliverHeader, if_neg (show ¬Config.hdrLen ≤ _ from Nat.not_le_of_lt hidx)]
  dsimp only
  split
  · exact AnswersInv.next (hstore.headerDone { hfile with } hfinal hcal)
  · rename_i hne
    exact AnswersInv.next (Inv.enter (c := .tReadHdr) hst hstore
      ⟨{ hfile with }, hfinal, hcal, byteidx_succ_lt (n := 20) hidx hne⟩)

theorem Inv.deliverData (h : Inv s) (hst : s.st = .tReadData) : AnswersInv (deliverData b idx s) := by
  obtain ⟨hfile, hfinal, hcal, hidx⟩ := h.ctl_at hst
  have hbuf := s.bufWrite_wf s.ses.byteidx b h.buf
  rw [deliverData_next]
  refine AnswersInv.next ?_
  split
  · exact Inv.enter (c := .tChecksum) rfl { h.data with buf := hbuf } ⟨{ hfile with }, hfinal, hcal, Nat.zero_le _⟩
  · rename_i hne
    exact Inv.enter (c := .tReadData) hst { h.data with buf := hbuf }
      ⟨{ hfile with }, hfinal, hcal, byteidx_succ_lt hidx hne⟩

theorem Inv.deliverChecksum (h : Inv s) (hst : s.st = .tChecksum) : AnswersInv (deliverChecksum b idx s) := by
  obtain ⟨hfile, hfinal, hcal, _⟩ := h.ctl_at hst
  dsimp only [Machine.deliverChecksum]
  split
  · exact AnswersInv.next (Inv.enter (c := .tChecksum) hst
      { h.data with verdict := fun hf => absurd hf (by simp [hfinal]) } ⟨{ hfile with }, hfinal, hcal, Nat.le_refl 1⟩)
  · exact AnswersInv.next (Inv.enter (c := .tEndTrailer) rfl
      { h.data with verdict := fun _ => rfl, noVerdict := nofun } ⟨{ hfile with }, rfl, hcal, nofun, nofun⟩)

/-! ### Bytes of a HELP7 block -/

/-- The judgement of a block header, whatever the byte index (44_framing_tape.md R212, R213). -/
theorem DataInv.blockHeaderDone (hd : DataInv s) (hf : BlockFile s) : AnswersInv (blockHeaderDone idx s) := by
  have hlatch : DataInv (latchBlockHeader s) := { hd with }
  have hfile : BlockFile (latchBlockHeader s) := { hf with }
  have hback : ∀ e f, Inv ((latchBlockHeader s).nonFatal e idx f).enterSeek := fun e f =>
    DataInv.enterSeek { hlatch with nfcode := e.code_le } { hfile with }
  dsimp only [Machine.blockHeaderDone]
  split
  · exact AnswersInv.next (hback _ _)
  rename_i hok
  have hok : blockHeaderOk (latchBlockHeader s) = true := by simpa using hok
  rw [if_neg (by simp [hfile.seenIndexOk hok])]
  split
  · exact AnswersInv.next (hback _ _)
  · rename_i hseen
    have hseen : (latchBlockHeader s).ses.h7.seen.getLsbD ((latchBlockHeader s).ses.h7.bnum.toNat - 1) = false := by
      simpa using hseen
    exact AnswersInv.next (Inv.enter (c := .h7ReadBody) rfl { hlatch with }
      ⟨{ hfile with }, ⟨hok, hseen⟩, (hfile.block_bounds hok).1⟩)

theorem Inv.deliverBlockHeader (h : Inv s) (hst : s.st = .h7ReadBhdr) : AnswersInv (deliverBlockHeader b idx s) := by
  obtain ⟨hfile, hidx⟩ := h.ctl_at hst
  have hstore : DataInv { storeHeaderByte b s with ck := sumUpd s.ck b } := { h.data with }
  rw [Machine.deliverBlockHeader, if_neg (by simp only [Config.hdrLen]; omega)]
  dsimp only
  split
  · exact hstore.blockHeaderDone { hfile with }
  · rename_i hne
    exact AnswersInv.next (Inv.enter (c := .h7ReadBhdr) hst hstore
      ⟨{ hfile with }, byteidx_succ_lt (n := 6) hidx hne⟩)

/-- A block body byte is stored below LENGTH (44_framing_tape.md R208, R214). -/
theorem Inv.blockAddr_lt (h : Inv s) (hst : s.st = .h7ReadBody) : blockAddr s < s.ses.rcd.length.toNat := by
  obtain ⟨hfile, ⟨hok, _⟩, hidx⟩ := h.ctl_at hst
  obtain ⟨_, hbound⟩ := hfile.block_bounds hok
  unfold blockAddr
  omega

theorem Inv.deliverBlockBody (h : Inv s) (hst : s.st = .h7ReadBody) : AnswersInv (deliverBlockBody b idx s) := by
  obtain ⟨hfile, hopen, hidx⟩ := h.ctl_at hst
  have haddr := h.blockAddr_lt hst
  have hlen := s.ses.rcd.length.isLt
  have hbuf := s.bufWrite_wf (BitVec.ofNat 16 (blockAddr s)) b h.buf
  rw [Machine.deliverBlockBody, if_neg (by simp only [Config.bufSize]; omega)]
  dsimp only
  split
  · exact AnswersInv.next (Inv.enter (c := .h7Bcksum) rfl { h.data with buf := hbuf }
      ⟨{ hfile with }, hopen, Nat.zero_le _⟩)
  · rename_i hne
    exact AnswersInv.next (Inv.enter (c := .h7ReadBody) hst { h.data with buf := hbuf }
      ⟨{ hfile with }, hopen, byteidx_succ_lt hidx hne⟩)

/-- The last block of a file gives the record its verdict (44_framing_tape.md R217). -/
theorem DataInv.help7Finalize (hd : DataInv s) (he : s.ses.err.errcode = 0) : Inv (help7Finalize s) :=
  Inv.enter (c := .done) rfl { hd with verdict := fun _ => rfl, noVerdict := nofun } he

theorem DataInv.blockAccepted (hd : DataInv s) (hf : BlockFile s) (hok : blockHeaderOk s = true) :
    AnswersInv (blockAccepted s) := by
  have hact : s.ses.h7.h7act ≠ false := by simp [hf.active]
  rw [Machine.blockAccepted, if_neg (by simp [hf.seenIndexOk hok])]
  by_cases hr : s.ses.h7.remain - s.ses.h7.blen = 0
  · refine ⟨_, if_pos hr, DataInv.help7Finalize ?_ hf.noError⟩
    exact { hd with inactive := fun hn => absurd hn hact }
  · refine ⟨_, if_neg hr, DataInv.enterSeek ?_ { hf with }⟩
    exact { hd with inactive := fun hn => absurd hn hact }

theorem Inv.deliverBlockChecksum (h : Inv s) (hst : s.st = .h7Bcksum) : AnswersInv (deliverBlockChecksum b idx s) := by
  obtain ⟨hfile, hopen, _⟩ := h.ctl_at hst
  dsimp only [Machine.deliverBlockChecksum]
  split
  · exact AnswersInv.next (Inv.enter (c := .h7Bcksum) hst { h.data with } ⟨{ hfile with }, hopen, Nat.le_refl 1⟩)
  split
  · exact DataInv.blockAccepted { h.data with } { hfile with } hopen.1
  · exact AnswersInv.next (DataInv.enterSeek { h.data with nfcode := NonFatal.code_le _ } { hfile with })

end

/-! ### Bit cells of the tape -/

section
variable {s : State} {p : Half} {idx : Word}

/-- A period of a byte-reading tape state keeps the invariant if the field's violation and its byte rule do. -/
theorem Inv.tapeBytePeriod {v : Fatal → Word → State → State} {d : Byte → Word → State → Res} (h : Inv s)
    (hv : ∀ e, Inv (v e idx s)) (hd : ∀ b u, Inv u → u.st = s.st → AnswersInv (d b idx u)) :
    AnswersInv (tapeBytePeriod v d p idx s) := by
  unfold Machine.tapeBytePeriod
  split
  · dsimp only [tapeSyncPeriod]
    split
    · exact AnswersInv.next (hv _)
    split
    · exact hd _ _ (h.setBits (b := ⟨_, 0, _⟩) (Nat.zero_le _)) rfl
    · rename_i h8
      have hlt : (s.ses.bits.bitcnt + 1).toNat ≤ 7 := by
        have hle := h.shifter.1
        bv_omega
      exact AnswersInv.next (h.setBits (b := ⟨_, _, _⟩) hlt)
  · rw [tapeDataPeriod_next]
    refine AnswersInv.next ?_
    split
    · exact hv _
    · exact h.setBits (b := ⟨_, _, _⟩) h.shifter.1

/-- Inside an ordinary file a violation is a terminal error (42_demod.md R162). -/
theorem Inv.fileViolation (h : Inv s) (hr : s.ready = true) (e : Fatal) : Inv (fileViolation e idx s) :=
  h.raiseFatal hr e idx

/-- Inside a block a violation abandons the block (42_demod.md R162; 44_framing_tape.md R211). -/
theorem Inv.help7Violation (h : Inv s) (h7 : s.st.isHelp7 = true) (e : Fatal) : Inv (help7Violation e idx s) :=
  (h.nonFatal .h7Period idx .h7fail).enterSeek h7

/-- A period of an ordinary file's byte state keeps the invariant if the state's byte rule does. -/
theorem Inv.filePeriod {c : Ctl} {d : Byte → Word → State → Res} (h : Inv s) (hst : s.st = c) (hc : c.isHold = false)
    (hd : ∀ b u, Inv u → u.st = c → AnswersInv (d b idx u)) :
    AnswersInv (Machine.tapeBytePeriod Machine.fileViolation d p idx s) := by
  subst hst
  exact h.tapeBytePeriod (h.fileViolation (State.ready_of_st rfl hc)) hd

/-- A period of a block's byte state keeps the invariant if the state's byte rule does. -/
theorem Inv.blockPeriod {c : Ctl} {d : Byte → Word → State → Res} (h : Inv s) (hst : s.st = c) (hc : c.isHelp7 = true)
    (hd : ∀ b u, Inv u → u.st = c → AnswersInv (d b idx u)) :
    AnswersInv (Machine.tapeBytePeriod Machine.help7Violation d p idx s) := by
  subst hst
  exact h.tapeBytePeriod (h.help7Violation hc) hd

end
end Sys2Proof.Machine

namespace Sys2Proof.Machine

section
variable {s : State} {p : Half} {idx : Word}

/-- Periods are below 65536, and so a list of them has a bounded sum. -/
theorem sum_toNat_le (l : List Half) : (l.map BitVec.toNat).sum ≤ l.length * 65535 := by
  induction l with
  | nil => simp
  | cons x l ih =>
    have hx := x.isLt
    simp only [List.map_cons, List.sum_cons, List.length_cons]
    omega

/-- The entries of the window: the oldest and the fourteen after it. -/
theorem Window.toList_eq (v : Window) : v.w.toList = v.w[0] :: v.w.toList.tail := by
  apply List.ext_getElem
  · simp
  · intro i _ _
    cases i <;> simp

/-- A period shifts the window: the oldest entry leaves, the newest enters (41_marker.md R147). -/
theorem Window.shift_toList (v : Window) (p : Half) : (v.shift p).w.toList = v.w.toList.tail ++ [p] := by
  apply List.ext_getElem
  · simp
  · intro i hi _
    have hi : i < 15 := by simpa using hi
    by_cases h14 : i < 14
    · simp [Window.shift, h14, List.getElem_append_left]
    · have : i = 14 := by omega
      subst this
      simp [Window.shift]

/-- The window's sum follows its entries: 15 periods fit 20 bits. -/
theorem Window.shift_wsum (v : Window) (p : Half) (hsum : v.wsum.toNat = (v.w.toList.map BitVec.toNat).sum) :
    (v.shift p).wsum.toNat = ((v.shift p).w.toList.map BitVec.toNat).sum := by
  have hrest := sum_toNat_le v.w.toList.tail
  have hlen : v.w.toList.tail.length = 14 := by simp
  have hold := v.w[0].isLt
  have hp := p.isLt
  rw [Window.toList_eq, List.map_cons, List.sum_cons] at hsum
  rw [Window.shift_toList, List.map_append, List.sum_append]
  show (v.wsum - (v.w[0]).zeroExtend 20 + p.zeroExtend 20).toNat = _
  rw [BitVec.toNat_add, BitVec.toNat_sub, zeroExtend_toNat _ (by decide), zeroExtend_toNat _ (by decide)]
  simp only [List.map_cons, List.map_nil, List.sum_cons, List.sum_nil]
  omega

theorem Window.shift_unfilled (v : Window) (p : Half) (hzero : ∀ i : Fin 15, i.val + v.wcnt.toNat < 15 → v.w[i] = 0)
    (i : Fin 15) (hi : i.val + (v.shift p).wcnt.toNat < 15) : (v.shift p).w[i] = 0 := by
  have hw : v.wcnt ≠ 15 := by
    intro h15
    simp [Window.shift, h15] at hi
  have hlt := v.wcnt.isLt
  have hne : v.wcnt.toNat ≠ 15 := fun h => hw (BitVec.eq_of_toNat_eq h)
  have hinc : (v.shift p).wcnt.toNat = v.wcnt.toNat + 1 := by
    simp only [Window.shift, if_neg hw]
    rw [BitVec.toNat_add]
    exact Nat.mod_eq_of_lt (by simp; omega)
  have h14 : i.val < 14 := by omega
  have hold := hzero ⟨i.val + 1, by omega⟩ (by simp only; omega)
  simpa [Window.shift, h14] using hold

theorem Inv.setWindow (h : Inv s) {v : Window} (hsum : v.wsum.toNat = (v.w.toList.map BitVec.toNat).sum)
    (hzero : ∀ i : Fin 15, i.val + v.wcnt.toNat < 15 → v.w[i] = 0) : Inv { s with ses.win := v } :=
  { h with window := ⟨hsum, hzero⟩ }

theorem Inv.shiftWindow (h : Inv s) (p : Half) : Inv { s with ses.win := s.ses.win.shift p } := by
  obtain ⟨hsum, hzero⟩ := h.window
  exact h.setWindow (s.ses.win.shift_wsum p hsum) (s.ses.win.shift_unfilled p hzero)

/-- A match calibrates, empties the window and starts the byte reader (41_marker.md R150, R151). -/
theorem Inv.windowMatched {c : Ctl} (h : Inv s)
    (hc : (s.st = .dFindHdr ∧ c = .dReadHdr) ∨ (s.st = .dFindData ∧ c = .dReadData)) :
    Inv (windowMatched c s) := by
  have hdata : DataInv (Machine.windowMatched c s) :=
    { h.data with
      unset := nofun
      window := windowInv_of_empty rfl
      shifter := ⟨h.shifter.1, by show (2 : Nat) ≤ 15; omega⟩ }
  rcases hc with ⟨hst, rfl⟩ | ⟨hst, rfl⟩
  · obtain ⟨hrun, heos⟩ := h.ctl_at hst
    exact Inv.enter (c := .dReadHdr) rfl hdata ⟨{ hrun with }, heos, rfl, Nat.zero_le _⟩
  · obtain ⟨hrun, heos, _, hsize⟩ := h.ctl_at hst
    exact Inv.enter (c := .dReadData) rfl hdata ⟨{ hrun with }, heos, rfl, hsize, Nat.zero_le _⟩

theorem Inv.findHeader (h : Inv s) (hst : s.st = .dFindHdr) : Inv (findHeader p s) := by
  have hshift := h.shiftWindow p
  dsimp only [Machine.findHeader]
  split
  · exact hshift.windowMatched (.inl ⟨hst, rfl⟩)
  · exact hshift

theorem Inv.setLook (h : Inv s) (l : Half) : Inv { s with ses.look := l } := { h with }

/-- The data search that runs out keeps its window (41_marker.md R152). -/
theorem Inv.dataTimeout (h : Inv s) (hst : s.st = .dFindData) :
    Inv { s.nonFatal .dataTimeout idx .databad with st := .dFindHdr } := by
  obtain ⟨hrun, heos, _⟩ := h.ctl_at hst
  exact Inv.enter (c := .dFindHdr) rfl { h.data with nfcode := NonFatal.code_le _ } ⟨{ hrun with }, heos⟩

theorem Inv.findData (h : Inv s) (hst : s.st = .dFindData) : Inv (findData p idx s) := by
  have hshift := (h.setLook (satInc s.ses.look)).shiftWindow p
  dsimp only [Machine.findData]
  split
  · exact hshift.windowMatched (.inr ⟨hst, rfl⟩)
  split
  · exact hshift.dataTimeout hst
  · exact hshift

end

/-! ### Sector header -/

section
variable {s : State} {p : Half} {b : Byte} {idx : Word}

theorem State.disk_of_st {c : Ctl} (hst : s.st = c) (hc : c.isDisk = true) : s.st.isDisk = true := hst ▸ hc

/-- A non-fatal event that sends the engine back to the search for a header. -/
theorem Inv.abandonSector (h : Inv s) (hdisk : s.st.isDisk = true) (he : s.ses.eosp = false) (e : NonFatal) (f : Flag) :
    Inv (s.nonFatal e idx f).resumeFindHdr :=
  (h.nonFatal e idx f).resumeFindHdr hdisk he

/-- A header field goes to the sector registers, which keep their size. -/
theorem storeSectorField_eq (i : Nat) (b : Byte) (s : State) :
    ∃ c : Sector, c.size = s.ses.sec.size ∧ storeSectorField i b s = { s with ses.sec := c } := by
  refine ⟨(storeSectorField i b s).ses.sec, ?_, ?_⟩ <;> unfold storeSectorField <;> split <;> rfl

/-- A byte taken into the header without a judgement. -/
theorem Inv.setSectorHeader (h : Inv s) (hst : s.st = .dReadHdr) {c : Sector} (hc : c.size = s.ses.sec.size) {i k : Half}
    (hi : i.toNat ≤ 6) : Inv { s with ses.sec := c, ses.byteidx := i, ck := k } := by
  obtain ⟨hrun, heos, hcal, _⟩ := h.ctl_at hst
  exact Inv.enter (c := .dReadHdr) hst { h.data with size := hc ▸ h.data.size } ⟨{ hrun with }, heos, hcal, hi⟩

theorem Inv.headerSizeStep (h : Inv s) (hst : s.st = .dReadHdr) : Inv (headerSizeStep idx s) := by
  obtain ⟨hrun, heos, hcal, _⟩ := h.ctl_at hst
  unfold Machine.headerSizeStep
  split
  · exact h.abandonSector (State.disk_of_st hst rfl) heos _ _
  · rename_i hsize
    exact Inv.enter (c := .dFindData) rfl { h.data with window := windowInv_of_empty rfl }
      ⟨{ hrun with }, heos, hcal, hsize⟩

/-- The size of a size code is 0 or one of the three legal sizes (45_framing_disk.md R235). -/
theorem sizeOfCode_cases (c : Byte) :
    sizeOfCode c = 0 ∨ sizeOfCode c = 256 ∨ sizeOfCode c = 512 ∨ sizeOfCode c = 1024 := by
  unfold sizeOfCode; split_ifs <;> simp

theorem Inv.latchHeaderCrc (h : Inv s) (hst : s.st = .dReadHdr) : Inv (latchHeaderCrc b s) := by
  obtain ⟨hrun, hrest⟩ := h.ctl_at hst
  exact Inv.enter (c := .dReadHdr) hst { h.data with size := sizeOfCode_cases _ } ⟨{ hrun with }, hrest⟩

theorem Inv.headerCrcStep (h : Inv s) (hst : s.st = .dReadHdr) : Inv (headerCrcStep b idx s) := by
  have hlatch : Inv (Machine.latchHeaderCrc b s) := h.latchHeaderCrc hst
  obtain ⟨_, heos, _⟩ := hlatch.ctl_at hst
  dsimp only [Machine.headerCrcStep]
  split
  · exact hlatch.headerSizeStep hst
  split
  · exact (hlatch.nonFatal _ _ _).headerSizeStep hst
  · exact hlatch.abandonSector (State.disk_of_st hst rfl) heos _ _

theorem Inv.deliverSectorHeader (h : Inv s) (hst : s.st = .dReadHdr) : Inv (deliverSectorHeader b idx s) := by
  obtain ⟨_, heos, _, hidx⟩ := h.ctl_at hst
  dsimp only [Machine.deliverSectorHeader]
  split
  · exact h.abandonSector (State.disk_of_st hst rfl) heos _ _
  split
  · rename_i hi
    obtain ⟨c, hc, heq⟩ := storeSectorField_eq s.ses.byteidx.toNat b s
    have hnext : (s.ses.byteidx + 1).toNat ≤ 6 := by rw [byteidx_succ_toNat (by omega)]; omega
    rw [heq]
    exact h.setSectorHeader hst hc hnext
  split
  · refine h.setSectorHeader hst ?_ ?_
    exacts [rfl, Nat.le_refl 6]
  · exact h.headerCrcStep hst

/-! ### Sector data -/

/-- A byte taken into the data field without a judgement. -/
theorem Inv.setSectorData (h : Inv s) (hst : s.st = .dReadData) {c : Sector} (hc : c.size = s.ses.sec.size) {i k : Half}
    (hi : i.toNat ≤ s.ses.sec.size.toNat + 2) : Inv { s with ses.sec := c, ses.byteidx := i, ck := k } := by
  obtain ⟨hrun, heos, hcal, hsize, _⟩ := h.ctl_at hst
  exact Inv.enter (c := .dReadData) hst { h.data with size := hc ▸ h.data.size }
    ⟨{ hrun with }, heos, hcal, hc ▸ hsize, hc ▸ hi⟩

theorem Inv.dataMark (h : Inv s) (hst : s.st = .dReadData) : Inv (dataMark b idx s) := by
  obtain ⟨_, heos, _⟩ := h.ctl_at hst
  unfold Machine.dataMark
  split
  · exact h.abandonSector (State.disk_of_st hst rfl) heos _ _
  · exact h.setSectorData hst rfl (Nat.le_add_left 1 _)

theorem Inv.bufWrite (h : Inv s) (a : BitVec 16) (v : Byte) : Inv (s.bufWrite a v) :=
  { h with buf := s.bufWrite_wf a v h.buf }

theorem Inv.dataPayload (h : Inv s) (hst : s.st = .dReadData) (hle : s.ses.byteidx.toNat ≤ s.ses.sec.size.toNat) :
    Inv (dataPayload b s) := by
  have hlt := s.ses.sec.size.isLt
  have hidx : (s.ses.byteidx + 1).toNat ≤ s.ses.sec.size.toNat + 2 := by
    rw [byteidx_succ_toNat (by omega)]; omega
  exact (h.bufWrite (s.ses.byteidx - 1) b).setSectorData hst rfl hidx

/-- Delivery to the host: the verdict of the sector registers (45_framing_disk.md R241, R244). -/
theorem Inv.deliverSector (h : Inv s) (hst : s.st = .dReadData) {c : Sector} (hc : c.size = s.ses.sec.size)
    (hd : Delivered c) {e : Bool} {k : BitVec 32} :
    Inv (deliverSector { s with ses.sec := c, ses.eosp := e, sectOk := k }) := by
  obtain ⟨hrun, _, hcal, hsize, _⟩ := h.ctl_at hst
  exact Inv.enter (c := .dDeliver) rfl { h.data with size := hc ▸ h.data.size } ⟨{ hrun with }, hcal, hc ▸ hsize, hd⟩

/-- The bitmap of valid sectors is all that a completed sector changes before its delivery (45_framing_disk.md R250). -/
theorem recordSector_eq (s : State) : ∃ k : BitVec 32, recordSector s = { s with sectOk := k } := by
  refine ⟨(recordSector s).sectOk, ?_⟩
  unfold recordSector; split <;> rfl

theorem Inv.dataCrcDone (h : Inv s) (hst : s.st = .dReadData) : Inv (dataCrcDone b idx s) := by
  obtain ⟨hrun, heos, hcal, hsize, _⟩ := h.ctl_at hst
  obtain ⟨k, hk⟩ := recordSector_eq (latchDataCrc b s)
  have hdelivered : Delivered (latchDataCrc b s).ses.sec :=
    ⟨by simp [latchDataCrc], by simp [latchDataCrc], Nat.le_refl _⟩
  have hdeliver : Inv (Machine.deliverSector (recordSector (latchDataCrc b s))) := by
    rw [hk]
    refine h.deliverSector hst ?_ ?_
    exacts [rfl, hdelivered]
  dsimp only [Machine.dataCrcDone]
  split
  · split
    · exact hdeliver
    · exact hdeliver.nonFatal _ _ _
  · rw [hk]
    exact Inv.enter (c := .dFindHdr) rfl { h.data with window := windowInv_of_empty rfl, nfcode := NonFatal.code_le _ }
      ⟨{ hrun with }, heos⟩

theorem Inv.deliverSectorData (h : Inv s) (hst : s.st = .dReadData) : Inv (deliverSectorData b idx s) := by
  have hlt := s.ses.sec.size.isLt
  dsimp only [Machine.deliverSectorData]
  split
  · exact h.dataMark hst
  split
  · rename_i hle
    exact h.dataPayload hst hle
  split
  · rename_i hi
    have hidx : (s.ses.byteidx + 1).toNat ≤ s.ses.sec.size.toNat + 2 := by
      rw [byteidx_succ_toNat (by omega), hi]
    refine h.setSectorData hst ?_ ?_
    exacts [rfl, hidx]
  · exact h.dataCrcDone hst

/-- The registers of a partial delivery never claim a valid sector (45_framing_disk.md R244). -/
theorem Inv.partialDelivery (h : Inv s) (hst : s.st = .dReadData) (e : Bool) :
    Inv (partialDelivery { s with ses.eosp := e }) := by
  have hslen (n : Nat) : (BitVec.ofNat 11 (min n s.ses.sec.size.toNat)).toNat ≤ s.ses.sec.size.toNat := by
    rw [BitVec.toNat_ofNat]
    exact (Nat.mod_le _ _).trans (Nat.min_le_right _ _)
  refine h.deliverSector hst ?_ ?_
  exacts [rfl, ⟨(Bool.and_false _).symm, rfl, hslen _⟩]

theorem Inv.headerPeriodBad (h : Inv s) (hst : s.st = .dReadHdr) : Inv (headerPeriodBad idx s) := by
  obtain ⟨_, heos, _⟩ := h.ctl_at hst
  exact h.abandonSector (State.disk_of_st hst rfl) heos _ _

theorem Inv.dataPeriodBad (h : Inv s) (hst : s.st = .dReadData) : Inv (dataPeriodBad idx s) := by
  obtain ⟨_, heos, _⟩ := h.ctl_at hst
  dsimp only [Machine.dataPeriodBad]
  split
  · exact (h.nonFatal .dataPeriod idx .databad).partialDelivery hst s.ses.eosp
  · exact h.abandonSector (State.disk_of_st hst rfl) heos _ _

/-! ### Raw bits of the disk -/

/-- A raw push keeps the invariant if the field's byte rule does, in the field's control state (42_demod.md R165). -/
theorem Inv.pushRaw {c : Ctl} {d : Byte → Word → State → State}
    (hd : ∀ (b : Byte) (u : State), Inv u → u.st = c → Inv (d b idx u)) :
    ∀ (rs : List Bool) (s : State), Inv s → s.st = c → Inv (pushRaw d idx rs s)
  | [], _, h, _ => h
  | r :: rs, s, h, hst => by
    dsimp only [Machine.pushRaw]
    split
    · have hbyte := hd (dataByte (s.ses.rawb.raw.extractLsb' 0 15 ++ BitVec.ofBool r)) _
        (h.setRaw (r := ⟨s.ses.rawb.raw.extractLsb' 0 15 ++ BitVec.ofBool r, 0⟩) (Nat.zero_le _)) hst
      split
      · rename_i hsame
        exact Inv.pushRaw hd rs _ hbyte (hsame.trans hst)
      · exact hbyte
    · rename_i h16
      have hcnt : (s.ses.rawb.rawcnt + 1).toNat ≤ 15 := by
        have hle := h.shifter.2
        bv_omega
      exact Inv.pushRaw hd rs _ (h.setRaw (r := ⟨_, _⟩) hcnt) hst

theorem Inv.diskBytePeriod {bad : Word → State → State} {d : Byte → Word → State → State} (h : Inv s)
    (hbad : Inv (bad idx s)) (hd : ∀ (b : Byte) (u : State), Inv u → u.st = s.st → Inv (d b idx u)) :
    Inv (diskBytePeriod bad d p idx s) := by
  unfold Machine.diskBytePeriod
  split
  · exact hbad
  · exact Inv.pushRaw hd _ s h rfl

end
end Sys2Proof.Machine

namespace Sys2Proof.Machine

/-! ## Tokens keep the invariant -/

section
variable {s : State} {p : Half} {idx : Word}

/-- The rule of every control state keeps the invariant and never stops (46_commands.md R275). -/
theorem Inv.periodByState (h : Inv s) (hp : p ≠ 0) : AnswersInv (periodByState p idx s) := by
  cases hst : s.st <;> simp only [Machine.periodByState, hst]
  case idle | done | error | dDeliver => exact AnswersInv.next h
  case tFindPilot => exact AnswersInv.next (h.findPilot hst hp)
  case tPilotFound => exact AnswersInv.next (h.pilotSync1 hst)
  case tPilotFound2 => exact AnswersInv.next (h.pilotSync0 hst)
  case tHdrMarker => exact AnswersInv.next (h.strictMarker (.inl hst) (h.hdrMarkerDone hst))
  case tBodyMarker => exact AnswersInv.next (h.strictMarker (.inr hst) (h.bodyMarkerDone hst))
  case tEndTrailer => exact h.trailerMarker hst
  case h7Seek => exact h.seekMarker hst
  case tReadHdr => exact h.filePeriod hst rfl fun _ _ hu => hu.deliverHeader
  case tReadData => exact h.filePeriod hst rfl fun _ _ hu => hu.deliverData
  case tChecksum => exact h.filePeriod hst rfl fun _ _ hu => hu.deliverChecksum
  case h7ReadBhdr => exact h.blockPeriod hst rfl fun _ _ hu => hu.deliverBlockHeader
  case h7ReadBody => exact h.blockPeriod hst rfl fun _ _ hu => hu.deliverBlockBody
  case h7Bcksum => exact h.blockPeriod hst rfl fun _ _ hu => hu.deliverBlockChecksum
  case dFindHdr => exact AnswersInv.next (h.findHeader hst)
  case dFindData => exact AnswersInv.next (h.findData hst)
  case dReadHdr =>
    exact AnswersInv.next (h.diskBytePeriod (h.headerPeriodBad hst) fun _ _ hu hust =>
      hu.deliverSectorHeader (hust.trans hst))
  case dReadData =>
    exact AnswersInv.next (h.diskBytePeriod (h.dataPeriodBad hst) fun _ _ hu hust =>
      hu.deliverSectorData (hust.trans hst))

theorem Inv.execPeriod (h : Inv s) (p : Half) : AnswersInv (execPeriod p s) := by
  unfold Machine.execPeriod
  split
  · exact AnswersInv.next h
  rename_i hr
  split
  · exact AnswersInv.next (h.countPeriod.raiseFatal (by simpa using hr) _ _)
  · rename_i hp
    exact h.countPeriod.periodByState hp

theorem Inv.diskEosSearch (h : Inv s) (hr : s.ready = true) : Inv (diskEosSearch s) := by
  obtain ⟨_, _, he, _⟩ := State.ready_iff.1 hr
  unfold Machine.diskEosSearch
  split
  · exact h.finish he
  · exact h.raiseFatal hr _ _

theorem Inv.diskEosData (h : Inv s) (hst : s.st = .dReadData) : Inv (diskEosData s) := by
  have hnf := h.nonFatal .dataEos s.ses.pos .databad
  dsimp only [Machine.diskEosData]
  split
  · exact hnf.partialDelivery hst true
  · exact hnf.finish (by simp [hst])

/-- The stream may end in the trailer without its last marker (44_framing_tape.md R205). -/
theorem Inv.trailerEos (h : Inv s) (hst : s.st = .tEndTrailer) :
    Inv (State.finish { s with ses.rcd.notrailer := true }) := by
  obtain ⟨hfile, _⟩ := h.ctl_at hst
  exact Inv.enter (c := .done) rfl { h.data with } hfile.noError

theorem Inv.eosByState (h : Inv s) : Inv (eosByState s) := by
  cases hst : s.st <;> simp only [Machine.eosByState, hst]
  case idle | done | error | dDeliver => exact h
  case tEndTrailer => exact h.trailerEos hst
  case dFindHdr | dReadHdr | dFindData => exact h.diskEosSearch (State.ready_of_st hst rfl)
  case dReadData => exact h.diskEosData hst
  all_goals exact h.raiseFatal (State.ready_of_st hst rfl) _ _

theorem Inv.setRev (h : Inv s) (r : BitVec 8) : Inv { s with rev := r } := h.of_eq rfl rfl rfl rfl

/-! ## Commands and register accesses keep the invariant -/

/-- The two profiles of a legal configuration are TAPE and DISK. -/
theorem ConfigRegs.profile_of_legal {c : ConfigRegs} (hl : c.illegal = false) (hp : c.profile ≠ 0) : c.profile = 2 := by
  simp only [ConfigRegs.illegal, Bool.or_eq_false_iff, beq_eq_false_iff_ne] at hl
  obtain ⟨⟨h1, h3⟩, _⟩ := hl
  bv_omega

/-- START with a legal configuration begins a session of its profile; with an illegal one it raises `E_CFG`. -/
theorem Inv.cmdStart (h : Inv s) : Inv (cmdStart s) := by
  unfold Machine.cmdStart
  split
  · exact h.refuse
  split
  · apply DataInv.raiseFatal
    exacts [DataInv.of_zero h.buf rfl, rfl, rfl]
  rename_i hlegal
  have hlegal : s.cfg.illegal = false := by simpa using hlegal
  split
  · rename_i hp
    exact Inv.enter (c := .tFindPilot) rfl (DataInv.of_zero h.buf rfl) ⟨⟨⟨hlegal, rfl, rfl⟩, hp, rfl, rfl⟩, rfl⟩
  · rename_i hp
    exact Inv.enter (c := .dFindHdr) rfl (DataInv.of_zero h.buf rfl)
      ⟨⟨⟨hlegal, rfl, rfl⟩, ConfigRegs.profile_of_legal hlegal hp, rfl⟩, rfl⟩

theorem Inv.cmdAbort (h : Inv s) : Inv (cmdAbort s) :=
  Inv.enter (c := .idle) rfl (DataInv.of_zero h.buf rfl) ⟨rfl, rfl, rfl, rfl⟩

theorem Inv.cmdNext (h : Inv s) : Inv (cmdNext s) := by
  unfold Machine.cmdNext
  split
  · exact h.refuse
  rename_i hst
  have hst : s.st = .dDeliver := by simpa using hst
  split
  · exact h.finish (by simp [hst])
  · rename_i heos
    simp only [Bool.or_eq_true, not_or, Bool.not_eq_true] at heos
    exact h.resumeFindHdr (State.disk_of_st hst rfl) heos.1

theorem Inv.cmdTrkclr (h : Inv s) : Inv (cmdTrkclr s) := by
  unfold Machine.cmdTrkclr
  split
  · exact h.refuse
  · exact h.of_eq rfl rfl rfl rfl

theorem Inv.cmdCkinit (h : Inv s) (alg : Bool) : Inv (cmdCkinit alg s) := by
  unfold Machine.cmdCkinit
  split
  · exact h.refuse
  · exact h.of_eq rfl rfl rfl rfl

theorem Inv.cmdCkbyte (h : Inv s) (b : Byte) : Inv (cmdCkbyte b s) := by
  unfold Machine.cmdCkbyte
  split
  · exact h.refuse
  · exact h.of_eq rfl rfl rfl rfl

end

section
variable {s : State}

theorem Inv.commandWrite (h : Inv s) (w : Word) : Inv (commandWrite w s) := by
  rcases commandWrite_cases w s with
    ⟨_, he⟩ | ⟨_, he⟩ | ⟨_, he⟩ | ⟨_, he⟩ | ⟨_, he⟩ | ⟨alg, _, he⟩ | ⟨b, _, he⟩ | ⟨_, _, he⟩ <;> rw [he]
  · exact h
  · exact h.cmdStart
  · exact h.cmdAbort
  · exact h.cmdNext
  · exact h.cmdTrkclr
  · exact h.cmdCkinit alg
  · exact h.cmdCkbyte b
  · exact h.refuse

/-- An idle state relies on no configuration. -/
theorem Inv.setCfg (h : Inv s) (hi : s.st.isIdle = true) (c : ConfigRegs) : Inv { s with cfg := c } := by
  refine Inv.of_parts { h.data with } ?_
  have hctl := h.ctl_at rfl
  rcases State.isIdle_iff.1 hi with hst | hst | hst
  · simp only [hst] at hctl ⊢; exact hctl
  · simp only [hst] at hctl ⊢; exact hctl
  · simp only [hst] at hctl ⊢; exact hctl

theorem Inv.lockedWrite (h : Inv s) (f : ConfigRegs → ConfigRegs) : Inv (lockedWrite f s) := by
  unfold Machine.lockedWrite
  split
  · rename_i hi
    exact h.setCfg hi _
  · exact h.refuse

theorem Inv.writeAt (h : Inv s) (addr : Byte) (v : Word) : Inv (writeAt addr v s) := by
  rcases writeAt_cases addr v s with ⟨_, he⟩ | ⟨f, he⟩ | ⟨x, he⟩ | ⟨_, x, he⟩ | ⟨x, he⟩ | he <;> rw [he]
  · exact h.commandWrite v
  · exact h.lockedWrite f
  · exact h.of_eq rfl rfl rfl rfl
  · exact h.of_eq rfl rfl rfl rfl
  · exact h.of_eq rfl rfl rfl rfl
  · exact h

theorem Inv.execCsrrd (h : Inv s) (addr : Byte) : AnswersInv (execCsrrd addr s) := by
  unfold Machine.execCsrrd
  rw [readEffect_eq]
  exact AnswersInv.next (h.of_eq rfl rfl rfl rfl)

/-! ## Every operation and every step -/

/-- Every operation answers a next state with the invariant. -/
theorem Inv.exec (h : Inv s) (i : Instr) : AnswersInv (exec i s) := by
  cases i with
  | period len => exact h.execPeriod len
  | eos =>
    refine AnswersInv.next ?_
    split
    · exact h.eosByState
    · exact h
  | index =>
    refine AnswersInv.next ?_
    split
    · exact (h.setRev _).setFlag _
    · exact h
  | rsv =>
    refine AnswersInv.next ?_
    split
    · exact h.raiseFatal ‹_› _ _
    · exact h
  | nop => exact AnswersInv.next h
  | start => exact AnswersInv.next h.cmdStart
  | abort => exact AnswersInv.next h.cmdAbort
  | next => exact AnswersInv.next h.cmdNext
  | trkclr => exact AnswersInv.next h.cmdTrkclr
  | ckinit alg => exact AnswersInv.next (h.cmdCkinit alg)
  | ckbyte b => exact AnswersInv.next (h.cmdCkbyte b)
  | csrrd addr => exact h.execCsrrd addr
  | csrwr addr data => exact AnswersInv.next (h.writeAt addr data)

/-- The state after a reset edge: the idle machine with empty memory. -/
theorem State.resetEdge_inv (s : State) : Inv s.resetEdge :=
  Inv.enter (c := .idle) rfl (DataInv.of_zero rfl rfl) ⟨rfl, rfl, rfl, rfl⟩

/-- Every step answers a next state with the invariant. -/
theorem Inv.step (h : Inv s) : AnswersInv (step s) := by
  unfold Machine.step
  split
  · exact AnswersInv.next s.resetEdge_inv
  · exact AnswersInv.next h.endCycle
  · split
    · exact (h.accept _).exec _
    · exact AnswersInv.next h.endCycle

end

/-- Settles O8: `Inv` is split into data clauses and the clauses of one control state, and each operation is followed from the
control state it starts in to the one it enters. -/
theorem stepKeepsInv : Obligations.StepKeepsInv := by
  intro s t h hstep
  obtain ⟨u, hu, hinv⟩ := h.step
  rw [hstep] at hu
  exact Host.Outcome.next.inj hu ▸ hinv

/-- Settles O9: the same walk shows that no operation meets a fault. -/
theorem invStepNeverStops : Obligations.InvStepNeverStops := by
  intro s h
  obtain ⟨u, hu, _⟩ := h.step
  exact ⟨u, hu⟩

end Sys2Proof.Machine

namespace Sys2Proof.Machine

/-! ## What a token leaves alone -/

/-- The host's registers and the model's own fields. -/
def State.host (s : State) :
    ConfigRegs × BitVec 12 × Bool × BitVec 16 × Word × Bool × List PinCycle × List (BitVec 18) × Nat × Nat :=
  (s.cfg, s.ien, s.ckalg, s.bufaddr, s.rdata, s.rdValid, s.pins, s.source, s.tick, s.epoch)

/-- Equal host sides are equal field by field. -/
theorem State.host_eq_iff {s t : State} : t.host = s.host ↔
    t.cfg = s.cfg ∧ t.ien = s.ien ∧ t.ckalg = s.ckalg ∧ t.bufaddr = s.bufaddr ∧ t.rdata = s.rdata
      ∧ t.rdValid = s.rdValid ∧ t.pins = s.pins ∧ t.source = s.source ∧ t.tick = s.tick ∧ t.epoch = s.epoch := by
  simp [State.host]

/-- Every event flag that is set stays set. -/
def FlagsKept (s t : State) : Prop := s.evt &&& t.evt = s.evt

/-- What every rule of a token does to the host's side and to `POS`: nothing, but for flags it sets. -/
structure TokenFrame (s t : State) : Prop where
  host : t.host = s.host
  pos : t.ses.pos = s.ses.pos
  flags : FlagsKept s t

section
variable {s t u : State}

theorem FlagsKept.of_eq (h : t.evt = s.evt) : FlagsKept s t := by simp [FlagsKept, h]

theorem FlagsKept.of_or {m : BitVec 12} (h : t.evt = s.evt ||| m) : FlagsKept s t := by
  rw [FlagsKept, h]
  ext i hi
  simp +contextual

theorem FlagsKept.trans (h : FlagsKept s t) (h' : FlagsKept t u) : FlagsKept s u := by
  unfold FlagsKept at *
  rw [← h, BitVec.and_assoc, h']

/-- A rule that sets no flag. -/
theorem TokenFrame.quiet (hh : t.host = s.host) (hp : t.ses.pos = s.ses.pos) (he : t.evt = s.evt) : TokenFrame s t :=
  ⟨hh, hp, .of_eq he⟩

/-- A rule that sets flags. -/
theorem TokenFrame.flag (hh : t.host = s.host) (hp : t.ses.pos = s.ses.pos) {m : BitVec 12}
    (he : t.evt = s.evt ||| m) : TokenFrame s t :=
  ⟨hh, hp, .of_or he⟩

theorem TokenFrame.refl (s : State) : TokenFrame s s := .quiet rfl rfl rfl

theorem TokenFrame.trans (h : TokenFrame s t) (h' : TokenFrame t u) : TokenFrame s u :=
  ⟨h'.host.trans h.host, h'.pos.trans h.pos, h.flags.trans h'.flags⟩

/-- A rule that runs after a change of the engine alone. -/
theorem TokenFrame.after (h : TokenFrame t u) (hh : t.host = s.host) (hp : t.ses.pos = s.ses.pos)
    (he : t.evt = s.evt) : TokenFrame s u :=
  (TokenFrame.quiet hh hp he).trans h

end

/-! ### The frame of each rule -/

section
variable {s t : State} {p : Half} {b : Byte} {idx : Word}

theorem TokenFrame.raiseFatal (e : Fatal) (pos : Word) : TokenFrame s (s.raiseFatal e pos) := .flag rfl rfl rfl
theorem TokenFrame.nonFatal (e : NonFatal) (pos : Word) (f : Flag) : TokenFrame s (s.nonFatal e pos f) :=
  .flag rfl rfl rfl
theorem TokenFrame.enterMarker (c : Ctl) : TokenFrame s (s.enterMarker c) := .quiet rfl rfl rfl
theorem TokenFrame.enterSeek : TokenFrame s s.enterSeek := .quiet rfl rfl rfl
theorem TokenFrame.resumeFindHdr : TokenFrame s s.resumeFindHdr := .quiet rfl rfl rfl
theorem TokenFrame.finish : TokenFrame s s.finish := .flag rfl rfl rfl

theorem TokenFrame.findPilot : TokenFrame s (findPilot p s) := by
  unfold Machine.findPilot pilotAccumulate
  split_ifs
  exacts [.quiet rfl rfl rfl, .flag rfl rfl rfl, .refl s, .quiet rfl rfl rfl, .quiet rfl rfl rfl]

theorem TokenFrame.pilotSync1 : TokenFrame s (pilotSync1 p idx s) := by
  unfold Machine.pilotSync1
  split_ifs
  exacts [.raiseFatal _ _, .raiseFatal _ _, .quiet rfl rfl rfl]

theorem TokenFrame.pilotSync0 : TokenFrame s (pilotSync0 p idx s) := by
  unfold Machine.pilotSync0
  split_ifs
  exacts [.raiseFatal _ _, .enterMarker _]

theorem TokenFrame.strictMarker {done : State → State} (hdone : TokenFrame s (done s)) :
    TokenFrame s (strictMarker done p idx s) := by
  unfold Machine.strictMarker
  split
  · unfold strictLead; split_ifs; exacts [.raiseFatal _ _, .quiet rfl rfl rfl]
  · unfold strictBody; split; exacts [.raiseFatal _ _, .quiet rfl rfl rfl]
  · unfold strictFinal; split_ifs; exacts [.raiseFatal _ _, .quiet rfl rfl rfl]
  · unfold strictSync1; split_ifs; exacts [.raiseFatal _ _, .raiseFatal _ _, .quiet rfl rfl rfl]
  · unfold strictSync0; split_ifs; exacts [.raiseFatal _ _, hdone]

theorem TokenFrame.seekMarker (h : seekMarker p s = .next t) : TokenFrame s t := by
  rcases seekMarker_next h with ⟨_, rfl⟩ | ⟨_, rfl⟩ | ⟨_, rfl⟩
  · unfold seekLead; split_ifs <;> exact .quiet rfl rfl rfl
  · unfold seekSync1; split <;> exact .quiet rfl rfl rfl
  · unfold seekSync0; split <;> exact .quiet rfl rfl rfl

theorem TokenFrame.trailerMarker (h : trailerMarker p s = .next t) : TokenFrame s t := by
  rcases trailerMarker_next h with ⟨_, rfl⟩ | ⟨_, rfl⟩ | ⟨_, rfl⟩
  · unfold trailerLead; split <;> exact .quiet rfl rfl rfl
  · exact .quiet rfl rfl rfl
  · exact .finish

/-! Bytes of the tape -/

theorem TokenFrame.headerDone : TokenFrame s (headerDone idx s) := by
  dsimp only [Machine.headerDone]
  split
  · dsimp only [help7Detect]
    split
    exacts [.flag rfl rfl rfl, .quiet rfl rfl rfl]
  · exact .quiet rfl rfl rfl

theorem TokenFrame.deliverHeader (h : deliverHeader b idx s = .next t) : TokenFrame s t := by
  have hstore : TokenFrame s (storeHeaderByte b s) := .quiet rfl rfl rfl
  obtain ⟨_, ⟨_, rfl⟩ | ⟨_, rfl⟩⟩ := deliverHeader_next h
  · exact hstore.trans .headerDone
  · exact hstore

theorem TokenFrame.deliverData (h : deliverData b idx s = .next t) : TokenFrame s t := by
  rw [deliverData_next] at h
  obtain rfl := Host.Outcome.next.inj h
  split <;> exact .quiet rfl rfl rfl

theorem TokenFrame.deliverChecksum (h : deliverChecksum b idx s = .next t) : TokenFrame s t := by
  dsimp only [Machine.deliverChecksum] at h
  split at h <;> obtain rfl := Host.Outcome.next.inj h
  · exact .quiet rfl rfl rfl
  · exact .flag rfl rfl rfl

theorem TokenFrame.blockHeaderDone (h : blockHeaderDone idx s = .next t) : TokenFrame s t := by
  rcases blockHeaderDone_next h with ⟨_, rfl⟩ | ⟨_, _, ⟨_, rfl⟩ | ⟨_, rfl⟩⟩
  exacts [.flag rfl rfl rfl, .flag rfl rfl rfl, .quiet rfl rfl rfl]

theorem TokenFrame.deliverBlockHeader (h : deliverBlockHeader b idx s = .next t) : TokenFrame s t := by
  have hstore : TokenFrame s { storeHeaderByte b s with ck := sumUpd s.ck b } := .quiet rfl rfl rfl
  obtain ⟨_, ⟨_, hdone⟩ | ⟨_, rfl⟩⟩ := deliverBlockHeader_next h
  · exact hstore.trans (.blockHeaderDone hdone)
  · exact hstore

theorem TokenFrame.deliverBlockBody (h : deliverBlockBody b idx s = .next t) : TokenFrame s t := by
  obtain ⟨_, rfl⟩ := deliverBlockBody_next h
  split <;> exact .quiet rfl rfl rfl

theorem TokenFrame.blockAccepted (h : blockAccepted s = .next t) : TokenFrame s t := by
  obtain ⟨_, u, hu, hfin⟩ := blockAccepted_next h
  have hmark : TokenFrame s u := by subst hu; exact .flag rfl rfl rfl
  rcases hfin with ⟨_, rfl⟩ | ⟨_, rfl⟩
  · have hverdict : TokenFrame u (help7Finalize u) := .flag rfl rfl (BitVec.or_assoc _ _ _)
    exact hmark.trans hverdict
  · exact hmark.trans .enterSeek

theorem TokenFrame.deliverBlockChecksum (h : deliverBlockChecksum b idx s = .next t) : TokenFrame s t := by
  rcases deliverBlockChecksum_next h with ⟨_, rfl⟩ | ⟨_, u, rfl, ⟨_, hacc⟩ | ⟨_, rfl⟩⟩
  · exact .quiet rfl rfl rfl
  · exact (TokenFrame.blockAccepted hacc).after rfl rfl rfl
  · exact .flag rfl rfl rfl

/-- A period of a byte-reading tape state has the frame of the field's violation and byte rule. -/
theorem TokenFrame.tapeBytePeriod {v : Fatal → Word → State → State} {d : Byte → Word → State → Res}
    (hv : ∀ e, TokenFrame s (v e idx s)) (hd : ∀ b u, d b idx u = .next t → TokenFrame u t)
    (h : tapeBytePeriod v d p idx s = .next t) : TokenFrame s t := by
  unfold Machine.tapeBytePeriod at h
  split at h
  · rcases tapeSyncPeriod_next h with ⟨_, rfl⟩ | ⟨_, _, hbyte⟩ | ⟨_, _, rfl⟩
    · exact hv _
    · exact (hd _ _ hbyte).after rfl rfl rfl
    · exact .quiet rfl rfl rfl
  · rw [tapeDataPeriod_next] at h
    obtain rfl := Host.Outcome.next.inj h
    split
    exacts [hv _, .quiet rfl rfl rfl]

theorem TokenFrame.blockViolation : TokenFrame s (blockViolation idx s) := .flag rfl rfl rfl

/-! Windows, raw bits and bytes of the disk -/

theorem TokenFrame.windowMatched (c : Ctl) : TokenFrame s (windowMatched c s) := .flag rfl rfl rfl

theorem TokenFrame.setWindow (v : Window) (l : Half) : TokenFrame s { s with ses.win := v, ses.look := l } :=
  .quiet rfl rfl rfl

theorem TokenFrame.findHeader : TokenFrame s (findHeader p s) := by
  have hshift := TokenFrame.setWindow (s := s) (s.ses.win.shift p) s.ses.look
  dsimp only [Machine.findHeader]
  split
  exacts [hshift.trans (.windowMatched _), hshift]

/-- The timeout of the data search. -/
theorem TokenFrame.dataTimeout : TokenFrame s { s.nonFatal .dataTimeout idx .databad with st := .dFindHdr } :=
  .flag rfl rfl rfl

theorem TokenFrame.findData : TokenFrame s (findData p idx s) := by
  have hshift := TokenFrame.setWindow (s := s) (s.ses.win.shift p) (satInc s.ses.look)
  dsimp only [Machine.findData]
  split_ifs
  exacts [hshift.trans (.windowMatched _), hshift.trans .dataTimeout, hshift]

theorem TokenFrame.headerSizeStep : TokenFrame s (headerSizeStep idx s) := by
  unfold Machine.headerSizeStep
  split
  exacts [.flag rfl rfl rfl, .quiet rfl rfl rfl]

theorem TokenFrame.headerCrcStep : TokenFrame s (headerCrcStep b idx s) := by
  have hlatch : TokenFrame s (latchHeaderCrc b s) := .quiet rfl rfl rfl
  have hevent : TokenFrame s ((latchHeaderCrc b s).nonFatal .hdrCrc idx .hdrbad) := hlatch.trans (.nonFatal _ _ _)
  dsimp only [Machine.headerCrcStep]
  split_ifs
  exacts [hlatch.trans .headerSizeStep, hevent.trans .headerSizeStep, hevent.trans .resumeFindHdr]

theorem TokenFrame.deliverSectorHeader : TokenFrame s (deliverSectorHeader b idx s) := by
  obtain ⟨c, _, hfield⟩ := storeSectorField_eq s.ses.byteidx.toNat b s
  dsimp only [Machine.deliverSectorHeader]
  rw [hfield]
  split_ifs
  exacts [.flag rfl rfl rfl, .quiet rfl rfl rfl, .quiet rfl rfl rfl, .headerCrcStep]

theorem TokenFrame.dataCrcDone : TokenFrame s (dataCrcDone b idx s) := by
  have hlatch : TokenFrame s (recordSector (latchDataCrc b s)) := by
    obtain ⟨k, hk⟩ := recordSector_eq (latchDataCrc b s)
    rw [hk]; exact .quiet rfl rfl rfl
  have hdeliver : TokenFrame s (deliverSector (recordSector (latchDataCrc b s))) := hlatch.trans (.flag rfl rfl rfl)
  dsimp only [Machine.dataCrcDone]
  split_ifs
  exacts [hdeliver, hdeliver.trans (.nonFatal _ _ _), (hlatch.trans (.nonFatal _ _ _)).trans .resumeFindHdr]

theorem TokenFrame.deliverSectorData : TokenFrame s (deliverSectorData b idx s) := by
  dsimp only [Machine.deliverSectorData, dataMark]
  split_ifs
  exacts [.flag rfl rfl rfl, .quiet rfl rfl rfl, .quiet rfl rfl rfl, .quiet rfl rfl rfl, .dataCrcDone]

theorem TokenFrame.partialDelivery : TokenFrame s (partialDelivery s) := .flag rfl rfl rfl

theorem TokenFrame.dataPeriodBad : TokenFrame s (dataPeriodBad idx s) := by
  have hevent := TokenFrame.nonFatal (s := s) .dataPeriod idx .databad
  dsimp only [Machine.dataPeriodBad]
  split_ifs
  exacts [hevent.trans .partialDelivery, hevent.trans .resumeFindHdr]

theorem TokenFrame.diskBytePeriod {bad : Word → State → State} {d : Byte → Word → State → State}
    (hbad : TokenFrame s (bad idx s)) (hd : ∀ b u, TokenFrame u (d b idx u)) :
    TokenFrame s (diskBytePeriod bad d p idx s) := by
  unfold Machine.diskBytePeriod
  split
  · exact hbad
  · refine pushRaw_keeps (P := TokenFrame s) (fun u _ hu _ => ?_) (fun u _ hu _ => ?_) _ s (.refl s)
    · exact hu.trans (.quiet rfl rfl rfl)
    · exact hu.trans ((hd _ _).after rfl rfl rfl)

/-! ### The frame of each token -/

/-- After the common step, a period leaves the host's side and `POS` alone. -/
theorem TokenFrame.periodByState (h : periodByState p idx s = .next t) : TokenFrame s t := by
  have hfile : ∀ e, TokenFrame s (fileViolation e idx s) := fun _ => .raiseFatal _ _
  have hblock : ∀ e, TokenFrame s (help7Violation e idx s) := fun _ => .blockViolation
  cases hst : s.st <;> simp only [Machine.periodByState, hst] at h
  case tEndTrailer => exact .trailerMarker h
  case h7Seek => exact .seekMarker h
  case tReadHdr => exact .tapeBytePeriod hfile (fun _ _ => .deliverHeader) h
  case tReadData => exact .tapeBytePeriod hfile (fun _ _ => .deliverData) h
  case tChecksum => exact .tapeBytePeriod hfile (fun _ _ => .deliverChecksum) h
  case h7ReadBhdr => exact .tapeBytePeriod hblock (fun _ _ => .deliverBlockHeader) h
  case h7ReadBody => exact .tapeBytePeriod hblock (fun _ _ => .deliverBlockBody) h
  case h7Bcksum => exact .tapeBytePeriod hblock (fun _ _ => .deliverBlockChecksum) h
  all_goals obtain rfl := Host.Outcome.next.inj h
  case idle | done | error | dDeliver => exact .refl s
  case tFindPilot => exact .findPilot
  case tPilotFound => exact .pilotSync1
  case tPilotFound2 => exact .pilotSync0
  case tHdrMarker | tBodyMarker => exact .strictMarker (.quiet rfl rfl rfl)
  case dFindHdr => exact .findHeader
  case dFindData => exact .findData
  case dReadHdr => exact .diskBytePeriod (.flag rfl rfl rfl) fun _ _ => .deliverSectorHeader
  case dReadData => exact .diskBytePeriod .dataPeriodBad fun _ _ => .deliverSectorData

theorem TokenFrame.eosByState : TokenFrame s (eosByState s) := by
  have hsearch : TokenFrame s (diskEosSearch s) := by
    unfold diskEosSearch; split_ifs; exacts [.finish, .raiseFatal _ _]
  have hdata : TokenFrame s (diskEosData s) := by
    have hevent := TokenFrame.nonFatal (s := s) .dataEos s.ses.pos .databad
    dsimp only [diskEosData]
    split_ifs
    exacts [hevent.trans (TokenFrame.partialDelivery.after rfl rfl rfl), hevent.trans .finish]
  cases hst : s.st <;> simp only [Machine.eosByState, hst]
  case idle | done | error | dDeliver => exact .refl s
  case tEndTrailer => exact .flag rfl rfl rfl
  case dFindHdr | dReadHdr | dFindData => exact hsearch
  case dReadData => exact hdata
  all_goals exact .raiseFatal _ _

theorem TokenFrame.execIndex (h : execIndex s = .next t) : TokenFrame s t := by
  obtain rfl := Host.Outcome.next.inj h
  split
  exacts [.flag rfl rfl rfl, .refl s]

theorem TokenFrame.execRsv (h : execRsv s = .next t) : TokenFrame s t := by
  obtain rfl := Host.Outcome.next.inj h
  split
  exacts [.raiseFatal _ _, .refl s]

theorem TokenFrame.execEos (h : execEos s = .next t) : TokenFrame s t := by
  obtain rfl := Host.Outcome.next.inj h
  split
  exacts [.eosByState, .refl s]

/-- A period does nothing in a hold state; accepted, it counts itself and then has the frame (46_commands.md R271). -/
theorem execPeriod_frame (h : execPeriod p s = .next t) :
    (s.ready = false ∧ t = s) ∨ (s.ready = true ∧ TokenFrame s.countPeriod t) := by
  unfold execPeriod at h
  split at h
  · rename_i hr
    exact .inl ⟨by simpa using hr, (Host.Outcome.next.inj h).symm⟩
  rename_i hr
  refine .inr ⟨by simpa using hr, ?_⟩
  split at h
  · obtain rfl := Host.Outcome.next.inj h
    exact .raiseFatal _ _
  · exact .periodByState h

end

/-! ### Tokens and the host's registers -/

section
variable {s t : State}

/-- Every token leaves the host's side alone and clears no flag. -/
theorem token_frame {i : Instr} (hi : i.isToken = true) (h : exec i s = .next t) : t.host = s.host ∧ FlagsKept s t := by
  have hself (hf : TokenFrame s t) : t.host = s.host ∧ FlagsKept s t := ⟨hf.host, hf.flags⟩
  cases i with
  | period p =>
    rcases execPeriod_frame h with ⟨_, rfl⟩ | ⟨_, hf⟩
    · exact hself (.refl _)
    · exact ⟨hf.host, hf.flags⟩
  | eos => exact hself (.execEos h)
  | index => exact hself (.execIndex h)
  | rsv => exact hself (.execRsv h)
  | nop | start | abort | next | trkclr | ckinit | ckbyte | csrrd | csrwr => cases hi

end

/-! ### Commands and register accesses -/

/-- What a command does to the configuration and the flags: nothing, but for flags it sets. -/
structure CommandFrame (s t : State) : Prop where
  cfg : t.cfg = s.cfg
  flags : FlagsKept s t

section
variable {s t : State}

theorem CommandFrame.quiet (hc : t.cfg = s.cfg) (he : t.evt = s.evt) : CommandFrame s t := ⟨hc, .of_eq he⟩

theorem CommandFrame.flag (hc : t.cfg = s.cfg) {m : BitVec 12} (he : t.evt = s.evt ||| m) : CommandFrame s t :=
  ⟨hc, .of_or he⟩

theorem cmdStart_frame (s : State) : CommandFrame s (cmdStart s) := by
  unfold cmdStart
  split_ifs
  exacts [.flag rfl rfl, .flag rfl rfl, .quiet rfl rfl, .quiet rfl rfl]

theorem cmdNext_frame (s : State) : CommandFrame s (cmdNext s) := by
  unfold cmdNext
  split_ifs
  exacts [.flag rfl rfl, .flag rfl rfl, .quiet rfl rfl]

theorem cmdTrkclr_frame (s : State) : CommandFrame s (cmdTrkclr s) := by
  unfold cmdTrkclr
  split_ifs
  exacts [.flag rfl rfl, .quiet rfl rfl]

theorem cmdCkinit_frame (alg : Bool) (s : State) : CommandFrame s (cmdCkinit alg s) := by
  unfold cmdCkinit
  split
  exacts [.flag rfl rfl, .quiet rfl rfl]

theorem cmdCkbyte_frame (b : Byte) (s : State) : CommandFrame s (cmdCkbyte b s) := by
  unfold cmdCkbyte
  split
  exacts [.flag rfl rfl, .quiet rfl rfl]

theorem commandWrite_frame (w : Word) (s : State) : CommandFrame s (commandWrite w s) := by
  rcases commandWrite_cases w s with
    ⟨_, he⟩ | ⟨_, he⟩ | ⟨_, he⟩ | ⟨_, he⟩ | ⟨_, he⟩ | ⟨alg, _, he⟩ | ⟨b, _, he⟩ | ⟨_, _, he⟩ <;> rw [he]
  exacts [.quiet rfl rfl, cmdStart_frame s, .quiet rfl rfl, cmdNext_frame s, cmdTrkclr_frame s, cmdCkinit_frame alg s,
    cmdCkbyte_frame b s, .flag rfl rfl]

/-- Every operation but a register write has the frame. -/
theorem exec_frame {i : Instr} (hw : ∀ addr v, i ≠ .csrwr addr v) (h : exec i s = .next t) : CommandFrame s t := by
  have htoken (hi : i.isToken = true) : CommandFrame s t := by
    obtain ⟨hhost, hflags⟩ := token_frame hi h
    exact ⟨(State.host_eq_iff.1 hhost).1, hflags⟩
  cases i with
  | period | eos | index | rsv => exact htoken rfl
  | nop | abort => obtain rfl := Host.Outcome.next.inj h; exact .quiet rfl rfl
  | start => obtain rfl := Host.Outcome.next.inj h; exact cmdStart_frame s
  | next => obtain rfl := Host.Outcome.next.inj h; exact cmdNext_frame s
  | trkclr => obtain rfl := Host.Outcome.next.inj h; exact cmdTrkclr_frame s
  | ckinit alg => obtain rfl := Host.Outcome.next.inj h; exact cmdCkinit_frame alg s
  | ckbyte b => obtain rfl := Host.Outcome.next.inj h; exact cmdCkbyte_frame b s
  | csrrd addr =>
    obtain rfl := Host.Outcome.next.inj h
    rw [readEffect_eq]
    exact .quiet rfl rfl
  | csrwr addr v => exact absurd rfl (hw addr v)

/-- A register write outside `EVT` clears no flag. -/
theorem writeAt_flags {addr : Byte} (ha : csrAt addr ≠ some .evt) (v : Word) (s : State) :
    FlagsKept s (writeAt addr v s) := by
  rcases writeAt_cases addr v s with ⟨_, he⟩ | ⟨f, he⟩ | ⟨x, he⟩ | ⟨hevt, _⟩ | ⟨x, he⟩ | he
  · rw [he]; exact (commandWrite_frame v s).flags
  · rcases lockedWrite_cases f s with ⟨_, hl⟩ | ⟨_, hl⟩ <;> rw [he, hl]
    · exact .of_eq rfl
    · exact .of_or rfl
  · rw [he]; exact .of_eq rfl
  · exact absurd hevt ha
  · rw [he]; exact .of_eq rfl
  · rw [he]; exact .of_eq rfl

/-- A register write changes the configuration while idle only. -/
theorem writeAt_cfg (addr : Byte) (v : Word) (s : State) : (writeAt addr v s).cfg = s.cfg ∨ s.st.isIdle = true := by
  rcases writeAt_cases addr v s with ⟨_, he⟩ | ⟨f, he⟩ | ⟨x, he⟩ | ⟨_, x, he⟩ | ⟨x, he⟩ | he
  · rw [he]; exact .inl (commandWrite_frame v s).cfg
  · rcases lockedWrite_cases f s with ⟨hi, _⟩ | ⟨_, hl⟩
    · exact .inr hi
    · rw [he, hl]; exact .inl rfl
  all_goals rw [he]; exact .inl rfl

/-- A register write outside `CMD` leaves the engine alone. -/
theorem writeAt_engine {addr : Byte} (ha : csrAt addr ≠ some .cmd) (v : Word) (s : State) :
    { writeAt addr v s with cfg := s.cfg, ien := s.ien, evt := s.evt, bufaddr := s.bufaddr } = s := by
  rcases writeAt_cases addr v s with ⟨hcmd, _⟩ | ⟨f, he⟩ | ⟨x, he⟩ | ⟨_, x, he⟩ | ⟨x, he⟩ | he
  · exact absurd hcmd ha
  · rcases lockedWrite_cases f s with ⟨_, hl⟩ | ⟨_, hl⟩
    · rw [he, hl]
    · rw [he, hl]; rfl
  all_goals rw [he]

end

/-- Settles O49: no rule of a token and no command clears a flag, and of the register writes only the one to `EVT` does. -/
theorem eventFlagsAreSticky : Obligations.EventFlagsAreSticky := by
  intro i s t hevt h
  by_cases hw : ∃ addr v, i = .csrwr addr v
  · obtain ⟨addr, v, rfl⟩ := hw
    obtain rfl := Host.Outcome.next.inj h
    exact writeAt_flags (fun ha => hevt addr v rfl (csrAt_eq_some_iff.1 ha)) v s
  · exact (exec_frame (fun addr v he => hw ⟨addr, v, he⟩) h).flags

/-- Settles O51: only a write to a locked register reaches the configuration, and it is refused outside the idle states. -/
theorem configurationFrozen : Obligations.ConfigurationFrozen := by
  intro i s t h hcfg
  by_cases hw : ∃ addr v, i = .csrwr addr v
  · refine ⟨hw, ?_⟩
    obtain ⟨addr, v, rfl⟩ := hw
    obtain rfl := Host.Outcome.next.inj h
    exact State.isIdle_iff.1 ((writeAt_cfg addr v s).resolve_left hcfg)
  · exact absurd (exec_frame (fun addr v he => hw ⟨addr, v, he⟩) h).cfg hcfg

/-- Settles O56: the host's side is what `token_frame` keeps; the cases of a register write leave the engine alone. -/
theorem tokensAndHostFrames : Obligations.TokensAndHostFrames := by
  refine ⟨fun i s t hi h => State.host_eq_iff.1 (token_frame hi h).1, fun addr v s t haddr h => ?_⟩
  obtain rfl := Host.Outcome.next.inj h
  exact writeAt_engine (fun hcmd => haddr (csrAt_eq_some_iff.1 hcmd)) v s

/-! ### `POS` -/

section
variable {s t : State}

theorem cmdStart_pos (s : State) : (cmdStart s).ses.pos = if s.st.isIdle then 0 else s.ses.pos := by
  unfold cmdStart
  by_cases hi : s.st.isIdle = true
  · simp only [hi, Bool.not_true, Bool.false_eq_true, if_false, if_true]
    split_ifs <;> rfl
  · simp [hi]

theorem cmdNext_pos (s : State) : (cmdNext s).ses.pos = s.ses.pos := by
  unfold cmdNext; split_ifs <;> rfl

theorem cmdTrkclr_pos (s : State) : (cmdTrkclr s).ses.pos = s.ses.pos := by
  unfold cmdTrkclr; split_ifs <;> rfl

theorem cmdCkinit_pos (alg : Bool) (s : State) : (cmdCkinit alg s).ses.pos = s.ses.pos := by
  unfold cmdCkinit; split <;> rfl

theorem cmdCkbyte_pos (b : Byte) (s : State) : (cmdCkbyte b s).ses.pos = s.ses.pos := by
  unfold cmdCkbyte; split <;> rfl

/-- `POS` after the command that an operation executes, if it executes one. -/
def posAfter (c : Option Instr) (s : State) : Word :=
  if c = some .abort ∨ (c = some .start ∧ s.st.isIdle = true) then 0 else s.ses.pos

theorem commandWrite_pos (w : Word) (s : State) :
    (commandWrite w s).ses.pos = posAfter (decodeCommand w).toOption s := by
  rcases commandWrite_cases w s with
    ⟨hd, he⟩ | ⟨hd, he⟩ | ⟨hd, he⟩ | ⟨hd, he⟩ | ⟨hd, he⟩ | ⟨alg, hd, he⟩ | ⟨b, hd, he⟩ | ⟨_, hd, he⟩ <;> rw [he, hd]
  · rfl
  · simp [cmdStart_pos, posAfter, Except.toOption]
  · rfl
  · exact cmdNext_pos s
  · exact cmdTrkclr_pos s
  · exact cmdCkinit_pos alg s
  · exact cmdCkbyte_pos b s
  · rfl

theorem writeAt_pos (addr : Byte) (v : Word) (s : State) :
    (writeAt addr v s).ses.pos = posAfter (Instr.csrwr addr v).command s := by
  by_cases hcmd : csrAt addr = some .cmd
  · have hwrite : writeAt addr v s = commandWrite v s := by simp [writeAt, hcmd, writeCsr]
    rw [hwrite, commandWrite_pos, Instr.command, if_pos hcmd]
  · rw [Instr.command, if_neg hcmd]
    have hpos := congrArg (fun u : State => u.ses.pos) (writeAt_engine hcmd v s)
    exact hpos

/-- Every operation but PERIOD: `POS` is cleared by the two commands that clear the session, and kept by all others. -/
theorem exec_pos {i : Instr} (hp : ∀ p, i ≠ .period p) (h : exec i s = .next t) : t.ses.pos = posAfter i.command s := by
  cases i with
  | period p => exact absurd rfl (hp p)
  | eos => exact (TokenFrame.execEos h).pos
  | index => exact (TokenFrame.execIndex h).pos
  | rsv => exact (TokenFrame.execRsv h).pos
  | nop | abort => obtain rfl := Host.Outcome.next.inj h; rfl
  | start =>
    obtain rfl := Host.Outcome.next.inj h
    simp [cmdStart_pos, posAfter, Instr.command]
  | next => obtain rfl := Host.Outcome.next.inj h; exact cmdNext_pos s
  | trkclr => obtain rfl := Host.Outcome.next.inj h; exact cmdTrkclr_pos s
  | ckinit alg => obtain rfl := Host.Outcome.next.inj h; exact cmdCkinit_pos alg s
  | ckbyte b => obtain rfl := Host.Outcome.next.inj h; exact cmdCkbyte_pos b s
  | csrrd addr =>
    obtain rfl := Host.Outcome.next.inj h
    rw [readEffect_eq]
    rfl
  | csrwr addr v => obtain rfl := Host.Outcome.next.inj h; exact writeAt_pos addr v s

end

/-- Settles O50: the common step of PERIOD counts, START and ABORT clear the session, and no other rule writes `POS`. -/
theorem positionCountsPeriods : Obligations.PositionCountsPeriods := by
  intro i s t h
  change _ = if _ then _ else posAfter i.command s
  by_cases hp : ∃ p, i = .period p
  · obtain ⟨p, rfl⟩ := hp
    rcases execPeriod_frame h with ⟨hr, rfl⟩ | ⟨hr, hf⟩
    · simp [hr, posAfter, Instr.command]
    · simp [hr, hf.pos]
  · rw [if_neg fun hc => hp hc.1]
    exact exec_pos (fun p he => hp ⟨p, he⟩) h

end Sys2Proof.Machine

namespace Sys2Proof.Machine

/-! ## Read values, field by field -/

/-! ### Fields of a word -/

/-- A word of two fields: the high one above the low one. -/
theorem toNat_append_eq {m n : Nat} (x : BitVec m) (y : BitVec n) : (x ++ y).toNat = x.toNat * 2 ^ n + y.toNat := by
  rw [BitVec.toNat_append, ← Nat.shiftLeft_add_eq_or_of_lt y.isLt, Nat.shiftLeft_eq]

theorem bit1_toNat (b : Bool) : (bit1 b).toNat = b.toNat := by cases b <;> rfl

/-- A bit of a word above its low field. -/
theorem getLsbD_append_high {m n k : Nat} (x : BitVec m) (y : BitVec n) (h : n ≤ k) :
    (x ++ y).getLsbD k = x.getLsbD (k - n) := by
  rw [BitVec.getLsbD_append, if_neg (Nat.not_lt.2 h)]

/-- A field of width 1 at the low end of a word. -/
theorem getLsbD_append_bit1 {m : Nat} (x : BitVec m) (b : Bool) : (x ++ bit1 b).getLsbD 0 = b := by
  rw [BitVec.getLsbD_append]
  cases b <;> rfl

/-! ### Reads -/

theorem State.complete_iff {s : State} :
    s.complete = true ↔ s.cfg.expect ≠ 0 ∧ s.sectOk &&& s.cfg.expect = s.cfg.expect := by
  simp [State.complete]

/-- Settles O21: each field is found by leaving out the fields below it. -/
theorem statusLayout : Obligations.StatusLayout := by
  intro s
  have hread : readAt 0x08 s = statusWord s := rfl
  rw [hread, ← State.ready_iff, ← State.complete_iff]
  unfold statusWord
  simp (disch := decide) only [BitVec.extractLsb'_append_eq_of_le, BitVec.extractLsb'_append_eq_right, getLsbD_append_high,
    getLsbD_append_bit1, Nat.reduceSub]
  simp

end Sys2Proof.Machine

namespace Sys2Proof.Machine

/-! ### The read values as numbers -/

/-- A register with one field at bit 0 reads as the field. -/
theorem zero_append_toNat {m n : Nat} (x : BitVec n) : (0#m ++ x).toNat = x.toNat := by
  simp

/-- A register of two halves. -/
theorem halves_toNat (hi lo : Half) : (hi ++ lo).toNat = lo.toNat + 65536 * hi.toNat := by
  rw [toNat_append_eq]; omega

/-- A register of a half and a flag above it. -/
theorem flag_half_toNat (b : Bool) (lo : Half) : (0#15 ++ bit1 b ++ lo).toNat = lo.toNat + 65536 * b.toNat := by
  rw [toNat_append_eq, zero_append_toNat, bit1_toNat]; omega

theorem cfgWord_toNat (c : ConfigRegs) :
    (cfgWord c).toNat = c.profile.toNat + 4 * c.keepBad.toNat + 8 * c.h7en.toNat := by
  simp only [cfgWord, toNat_append_eq, bit1_toNat, BitVec.toNat_ofNat]
  omega

theorem coefWord_toNat (c : ConfigRegs) :
    (coefWord c).toNat = c.coeff.toNat + 256 * c.maxk.toNat + 65536 * c.longk.toNat + 16777216 * c.drift.toNat := by
  simp only [coefWord, toNat_append_eq]
  omega

theorem h7cfgWord_toNat (c : ConfigRegs) :
    (h7cfgWord c).toNat = c.h7idx.toNat + 256 * c.h7val.toNat + 65536 * c.h7blk.toNat := by
  simp only [h7cfgWord, toNat_append_eq, BitVec.toNat_ofNat]
  omega

theorem errWord_toNat (e : ErrorRegs) :
    (errWord e).toNat = e.errcode.toNat + 256 * e.errst.code.toNat + 65536 * e.errms.code.toNat := by
  simp only [errWord, toNat_append_eq, BitVec.toNat_ofNat]
  omega

theorem sechdrWord_toNat (c : Sector) :
    (sechdrWord c).toNat = c.track.toNat + 256 * c.side.toNat + 65536 * c.number.toNat + 16777216 * c.sizeCode.toNat := by
  simp only [sechdrWord, toNat_append_eq]
  omega

theorem secstatWord_toNat (c : Sector) :
    (secstatWord c).toNat = c.slen.toNat + 65536 * c.hdrCrcOk.toNat + 131072 * c.dataCrcOk.toNat
      + 262144 * c.sizeOk.toNat + 524288 * c.svalid.toNat := by
  simp only [secstatWord, toNat_append_eq, bit1_toNat, BitVec.toNat_ofNat]
  omega

/-- The ones counted bit by bit are the positions of the ones. -/
theorem onesBelow_eq_length {w : Nat} (v : BitVec w) (n : Nat) :
    onesBelow v n = ((List.range n).filter fun k => v.getLsbD k).length := by
  induction n with
  | zero => rfl
  | succ n ih =>
    rw [onesBelow, ih, List.range_succ, List.filter_append, List.length_append]
    cases h : v.getLsbD n <;> simp [h]

theorem onesBelow_le {w : Nat} (v : BitVec w) (n : Nat) : onesBelow v n ≤ n := by
  rw [onesBelow_eq_length]
  exact (List.length_filter_le _ _).trans List.length_range.le

/-- Up to 32 valid sectors fit the six bits of `NSUCC`. -/
theorem countsWord_toNat (s : State) :
    (countsWord s).toNat = ((List.range 32).filter fun n => s.sectOk.getLsbD n).length + 256 * s.nbad.toNat
      + 65536 * s.rev.toNat := by
  have hle : s.nsucc ≤ 32 := onesBelow_le _ _
  have hcount : s.nsucc = ((List.range 32).filter fun n => s.sectOk.getLsbD n).length := onesBelow_eq_length _ _
  simp only [countsWord, toNat_append_eq, BitVec.toNat_ofNat]
  omega

/-- Up to 256 seen blocks fit the nine bits of `NSEEN`. -/
theorem h7statWord_toNat (s : State) :
    (h7statWord s).toNat = s.ses.h7.remain.toNat
      + 65536 * ((List.range 256).filter fun n => s.ses.h7.seen.getLsbD n).length := by
  have hle : s.nseen ≤ 256 := onesBelow_le _ _
  have hcount : s.nseen = ((List.range 256).filter fun n => s.ses.h7.seen.getLsbD n).length := onesBelow_eq_length _ _
  simp only [h7statWord, toNat_append_eq, BitVec.toNat_ofNat]
  omega

/-- Byte `j` of `NAMEk` is name byte `4k + j` (10_state.md R61). -/
theorem nameWord_byte (n : Vector Byte 16) (k j : Fin 4) :
    (nameWord n k).extractLsb' (8 * j.val) 8 = n[4 * k.val + j.val] := by
  unfold nameWord
  fin_cases j
  · exact BitVec.extractLsb'_append_eq_right
  · simp (disch := decide) only [BitVec.extractLsb'_append_eq_of_le, BitVec.extractLsb'_append_eq_right,
      Nat.reduceSub, Nat.reduceMul]
  · simp (disch := decide) only [BitVec.extractLsb'_append_eq_of_le, BitVec.extractLsb'_append_eq_right,
      Nat.reduceSub, Nat.reduceMul]
  · simp (disch := decide) only [BitVec.extractLsb'_append_eq_of_le, Nat.reduceSub, Nat.reduceMul]
    simp

theorem readAt_name (s : State) (k : Fin 4) :
    readAt (BitVec.ofNat 8 (0x50 + 4 * k.val)) s = nameWord s.ses.rcd.name k := by
  fin_cases k <;> rfl

/-- The low two bits of an offset select nothing (10_state.md R50). -/
theorem readAt_word (word : BitVec 6) (low : BitVec 2) (s : State) : readAt (word ++ low) s = readAt (word ++ 0#2) s := by
  have hword (l : BitVec 2) : (word ++ l : Byte).extractLsb' 2 6 = word := by
    simp (disch := decide) only [BitVec.extractLsb'_append_eq_of_le, Nat.reduceSub]
    simp
  simp only [readAt, csrAt, hword]

/-- Settles O22: the words of the register map as sums of their fields, register by register. -/
theorem registerLayouts : Obligations.RegisterLayouts := by
  intro s
  refine ⟨rfl, rfl, cfgWord_toNat _, coefWord_toNat _, halves_toNat _ _, h7cfgWord_toNat _, rfl, zero_append_toNat _,
    zero_append_toNat _, zero_append_toNat _, rfl, rfl, rfl, errWord_toNat _, rfl, zero_append_toNat _, rfl,
    halves_toNat _ _, halves_toNat _ _, fun k j => ?name, sechdrWord_toNat _, secstatWord_toNat _, halves_toNat _ _,
    halves_toNat _ _, rfl, countsWord_toNat _, flag_half_toNat _ _, h7statWord_toNat _, halves_toNat _ _,
    flag_half_toNat _ _, zero_append_toNat _, zero_append_toNat _, fun _ h => readAt_unmapped (csrAt_unmapped h),
    fun word low => readAt_word word low s⟩
  rw [readAt_name]
  exact nameWord_byte _ k j

/-- Settles O20: `BUFDATA` is the register of word 35. -/
theorem registerRead : Obligations.RegisterRead := by
  intro s addr
  have hbufdata : csrAt addr = some .bufdata ↔ addr.extractLsb' 2 6 = 35 := csrAt_eq_some_iff
  show Host.Outcome.next _ = _
  rw [readEffect_eq]
  simp only [hbufdata]

/-! ### Writes -/

/-- The five registers that are locked while `ST` is not idle (10_state.md R67 (a)). -/
theorem csrAt_locked {addr : Byte} (h3 : 3 ≤ (addr.extractLsb' 2 6).toNat) (h7 : (addr.extractLsb' 2 6).toNat ≤ 7) :
    csrAt addr = some .cfg ∨ csrAt addr = some .coef ∨ csrAt addr = some .limit ∨ csrAt addr = some .h7cfg
      ∨ csrAt addr = some .expect := by
  simp only [csrAt_eq_some_iff, Csr.word]
  bv_omega

/-- A write to a register that the map calls read-only, or to no register, is ignored (10_state.md R50, R67 (b)). -/
theorem writeAt_readOnly {addr : Byte} (h : (addr.extractLsb' 2 6).toNat ∉ [1, 3, 4, 5, 6, 7, 8, 9, 34]) (v : Word)
    (s : State) : writeAt addr v s = s := by
  cases hr : csrAt addr with
  | none => simp [writeAt, hr]
  | some r =>
    rw [csrAt_eq_some_iff.1 hr] at h
    rw [writeAt_of_csrAt hr]
    cases r
    case cmd | cfg | coef | limit | h7cfg | expect | ien | evt | bufaddr => exact absurd (by decide) h
    all_goals rfl

/-- Settles O24: the word index selects the register, and each register's write rule is one equation. -/
theorem registerWrites : Obligations.RegisterWrites := by
  intro s addr v
  have hexec : exec (.csrwr addr v) s = .next (writeAt addr v s) := rfl
  rw [hexec]
  refine ⟨fun h => ?_, fun h => ?_, fun h => ?_, fun h3 h7 hidle hdone herr => ?_, fun h => ?_⟩
  · rw [writeAt_of_csrAt (csrAt_eq_some_iff.2 h : csrAt addr = some .ien)]; rfl
  · rw [writeAt_of_csrAt (csrAt_eq_some_iff.2 h : csrAt addr = some .evt)]; rfl
  · rw [writeAt_of_csrAt (csrAt_eq_some_iff.2 h : csrAt addr = some .bufaddr)]; rfl
  · have hlocked (f : ConfigRegs → ConfigRegs) : lockedWrite f s = s.refuse := by
      rcases lockedWrite_cases f s with ⟨hi, _⟩ | ⟨_, he⟩
      · rcases State.isIdle_iff.1 hi with hst | hst | hst <;> contradiction
      · exact he
    have hwrite : writeAt addr v s = s.refuse := by
      rcases csrAt_locked h3 h7 with h | h | h | h | h <;> exact (writeAt_of_csrAt h v).trans (hlocked _)
    rw [hwrite]; rfl
  · rw [writeAt_readOnly h]

/-- Settles O5: the three cases of a cycle without `rst` are the branches of `pinEvent`. -/
theorem stepRunsDecodedOperation : Obligations.StepRunsDecodedOperation := by
  refine ⟨fun s i hrst hbus hdec => ?_, fun s w rest i hrst hwe hre hval hidle hdone herr hdel hsrc hdec => ?_,
    fun s hrst hwe hre hquiet => ?_⟩
  · have hpin : s.pinEvent = .op (.bus (BitVec.ofBool s.cycle.bWe ++ BitVec.ofBool s.cycle.bRe ++ s.cycle.bAddr)
        s.cycle.bWdata) := by
      simp [State.pinEvent, hrst, hbus]
    rw [step, hpin]
    simp only [hdec]
    rfl
  · have hready : s.sReady s.cycle = true := by
      simp [State.sReady, hwe, hre, hrst, State.ready_iff, hidle, hdone, herr, hdel]
    have hpin : s.pinEvent = .op (.token w) := by
      simp [State.pinEvent, hrst, hwe, hre, hval, hready, hsrc]
    rw [step, hpin]
    simp only [hdec, State.accept_token, hsrc, List.tail_cons]
    rfl
  · have hpin : s.pinEvent = .quiet := by
      rcases hquiet with hval | hsrc | hhold
      · simp [State.pinEvent, hrst, hwe, hre, hval]
      · simp [State.pinEvent, hrst, hwe, hre, hsrc]
      · have hready : s.ready = false := by
          rw [← Bool.not_eq_true, State.ready_iff]
          tauto
        simp [State.pinEvent, State.sReady, hrst, hwe, hre, hready]
    rw [step, hpin]
    rfl

end Sys2Proof.Machine

namespace Sys2Proof.Machine

/-! ### What a configuration register reads after its write -/

/-- A bit of a word as a field of width 1. -/
theorem bit1_getLsbD {w : Nat} (v : BitVec w) (k : Nat) : bit1 (v.getLsbD k) = v.extractLsb' k 1 := by
  apply BitVec.eq_of_getLsbD_eq
  intro i hi
  obtain rfl : i = 0 := by omega
  simp [bit1]

theorem coefWord_withCoef (v : Word) (c : ConfigRegs) : coefWord (c.withCoef v) = v &&& 0xFFFFFFFF := by
  have hjoin : coefWord (c.withCoef v) = v.extractLsb' 0 32 := by
    simp (disch := decide) only [coefWord, ConfigRegs.withCoef, BitVec.extractLsb'_append_extractLsb'_eq_extractLsb']
  rw [hjoin, BitVec.extractLsb'_eq_self]
  exact BitVec.and_allOnes.symm

theorem limitWord_withLimit (v : Word) (c : ConfigRegs) : limitWord (c.withLimit v) = v &&& 0xFFFFFFFF := by
  have hjoin : limitWord (c.withLimit v) = v.extractLsb' 0 32 := by
    simp (disch := decide) only [limitWord, ConfigRegs.withLimit, BitVec.extractLsb'_append_extractLsb'_eq_extractLsb']
  rw [hjoin, BitVec.extractLsb'_eq_self]
  exact BitVec.and_allOnes.symm

theorem cfgWord_withCfg (v : Word) (c : ConfigRegs) : cfgWord (c.withCfg v) = v &&& 0x0000000F := by
  have hsplit : v.extractLsb' 4 28 ++ v.extractLsb' 3 1 ++ v.extractLsb' 2 1 ++ v.extractLsb' 0 2 = v := by
    simp (disch := decide) only [BitVec.extractLsb'_append_extractLsb'_eq_extractLsb']
    exact BitVec.extractLsb'_eq_self
  calc cfgWord (c.withCfg v) = 0#28 ++ v.extractLsb' 3 1 ++ v.extractLsb' 2 1 ++ v.extractLsb' 0 2 := by
        simp only [cfgWord, ConfigRegs.withCfg, bit1_getLsbD]
    _ = (v.extractLsb' 4 28 ++ v.extractLsb' 3 1 ++ v.extractLsb' 2 1 ++ v.extractLsb' 0 2)
          &&& (0#28 ++ BitVec.allOnes 1 ++ BitVec.allOnes 1 ++ BitVec.allOnes 2) := by
        simp only [BitVec.and_append, BitVec.and_zero, BitVec.and_allOnes]
    _ = v &&& 0x0000000F := by rw [hsplit]; rfl

theorem h7cfgWord_withH7cfg (v : Word) (c : ConfigRegs) : h7cfgWord (c.withH7cfg v) = v &&& 0xFFFFFF0F := by
  have hsplit : v.extractLsb' 8 24 ++ v.extractLsb' 4 4 ++ v.extractLsb' 0 4 = v := by
    simp (disch := decide) only [BitVec.extractLsb'_append_extractLsb'_eq_extractLsb']
    exact BitVec.extractLsb'_eq_self
  calc h7cfgWord (c.withH7cfg v) = v.extractLsb' 8 24 ++ 0#4 ++ v.extractLsb' 0 4 := by
        simp (disch := decide) only [h7cfgWord, ConfigRegs.withH7cfg, BitVec.extractLsb'_append_extractLsb'_eq_extractLsb']
    _ = (v.extractLsb' 8 24 ++ v.extractLsb' 4 4 ++ v.extractLsb' 0 4)
          &&& (BitVec.allOnes 24 ++ 0#4 ++ BitVec.allOnes 4) := by
        rw [BitVec.and_append, BitVec.and_append, BitVec.and_zero, BitVec.and_allOnes, BitVec.and_allOnes]
    _ = v &&& 0xFFFFFF0F := by rw [hsplit]; rfl

/-- The locked registers of the map. -/
def lockedCsrs : List Csr := [.cfg, .coef, .limit, .h7cfg, .expect]

theorem csrAt_mem_locked {addr : Byte} (h3 : 3 ≤ (addr.extractLsb' 2 6).toNat) (h7 : (addr.extractLsb' 2 6).toNat ≤ 7) :
    ∃ r ∈ lockedCsrs, csrAt addr = some r := by
  simp only [lockedCsrs, List.exists_mem_cons_iff, List.not_mem_nil, false_and, exists_false, or_false]
  exact csrAt_locked h3 h7

/-- A write to a locked register while idle: what it answers, what the register and the other four then read. -/
theorem configWrite {s : State} {addr : Byte} {v mask : Word} {r : Csr} {f : ConfigRegs → ConfigRegs}
    (hidle : s.st.isIdle = true) (haddr : addr.extractLsb' 2 6 = r.word) (hwrite : writeCsr r v s = lockedWrite f s)
    (hread : readCsr r { s with cfg := f s.cfg } = v &&& mask)
    (hother : ∀ q ∈ lockedCsrs.erase r, readCsr q { s with cfg := f s.cfg } = readCsr q s) :
    exec (.csrwr addr v) s = .next { s with cfg := f s.cfg }
      ∧ readAt addr { s with cfg := f s.cfg } = v &&& mask
      ∧ ∀ q : Byte, 3 ≤ (q.extractLsb' 2 6).toNat → (q.extractLsb' 2 6).toNat ≤ 7 →
        q.extractLsb' 2 6 ≠ addr.extractLsb' 2 6 → readAt q { s with cfg := f s.cfg } = readAt q s := by
  have hcsr : csrAt addr = some r := csrAt_eq_some_iff.2 haddr
  refine ⟨?_, (readAt_of_csrAt hcsr).trans hread, fun q h3 h7 hne => ?_⟩
  · show Host.Outcome.next _ = _
    rw [writeAt_of_csrAt hcsr, hwrite, lockedWrite, if_pos hidle]
  · obtain ⟨r', hmem, hq⟩ := csrAt_mem_locked h3 h7
    have hdiff : r' ≠ r := by
      rintro rfl
      exact hne ((csrAt_eq_some_iff.1 hq).trans haddr.symm)
    rw [readAt_of_csrAt hq, readAt_of_csrAt hq]
    exact hother r' ((List.mem_erase_of_ne hdiff).2 hmem)

/-- Settles O23: each register has its write function, and reading back rejoins the fields of the written word. -/
theorem configurationWrite : Obligations.ConfigurationWrite := by
  intro s addr v hst writes
  have hidle := State.isIdle_iff.2 hst
  refine ⟨fun h => ?_, fun h => ?_, fun h => ?_, fun h => ?_, fun h => ?_⟩
  · refine configWrite (r := .cfg) (f := ConfigRegs.withCfg v) hidle h rfl (cfgWord_withCfg v s.cfg) fun q hq => ?_
    fin_cases hq <;> rfl
  · refine configWrite (r := .coef) (f := ConfigRegs.withCoef v) hidle h rfl (coefWord_withCoef v s.cfg) fun q hq => ?_
    fin_cases hq <;> rfl
  · refine configWrite (r := .limit) (f := ConfigRegs.withLimit v) hidle h rfl (limitWord_withLimit v s.cfg) fun q hq => ?_
    fin_cases hq <;> rfl
  · refine configWrite (r := .h7cfg) (f := ConfigRegs.withH7cfg v) hidle h rfl (h7cfgWord_withH7cfg v s.cfg) fun q hq => ?_
    fin_cases hq <;> rfl
  · refine configWrite (r := .expect) (f := ConfigRegs.withExpect v) hidle h rfl BitVec.and_allOnes.symm fun q hq => ?_
    fin_cases hq <;> rfl

end Sys2Proof.Machine

namespace Sys2Proof.Machine

/-! SUPPORT and certificates: the bytes of `BUF`. First what the host's operations leave alone, then the one byte that a PERIOD can
store, and that this byte belongs to the file or the sector being read. -/

/-! ## What the host's operations leave alone -/

/-- What every operation of the host but START, ABORT and NEXT keeps: `ST`, the session and the bytes of `BUF`. -/
structure ResultsKept (s t : State) : Prop where
  st : t.st = s.st
  ses : t.ses = s.ses
  buf : t.buf = s.buf
  epoch : t.epoch = s.epoch

/-- A byte of `BUF` is what is written there, or the free value of its epoch (20_memory.md R71, R79). -/
theorem State.bufRead_congr {s t : State} (hb : t.buf = s.buf) (he : t.epoch = s.epoch) (a : Nat) :
    t.bufRead a = s.bufRead a := by
  rw [State.bufRead, hb, he, State.bufRead]

section
variable {s t : State}

theorem ResultsKept.refl (s : State) : ResultsKept s s := ⟨rfl, rfl, rfl, rfl⟩

theorem ResultsKept.refuse (s : State) : ResultsKept s s.refuse := ⟨rfl, rfl, rfl, rfl⟩

theorem cmdStart_refused (h : s.st.isIdle = false) : cmdStart s = s.refuse := by simp [cmdStart, h]

theorem cmdNext_refused (h : s.st ≠ .dDeliver) : cmdNext s = s.refuse := if_pos h

theorem cmdTrkclr_results (s : State) : ResultsKept s (cmdTrkclr s) := by
  unfold cmdTrkclr
  split
  exacts [.refuse s, ⟨rfl, rfl, rfl, rfl⟩]

theorem cmdCkinit_results (alg : Bool) (s : State) : ResultsKept s (cmdCkinit alg s) := by
  unfold cmdCkinit
  split
  exacts [.refuse s, ⟨rfl, rfl, rfl, rfl⟩]

theorem cmdCkbyte_results (b : Byte) (s : State) : ResultsKept s (cmdCkbyte b s) := by
  unfold cmdCkbyte
  split
  exacts [.refuse s, ⟨rfl, rfl, rfl, rfl⟩]

/-- The host's effect on the results: one of the three commands that may change them, or none. -/
def HostEffect (c : Option Instr) (s t : State) : Prop :=
  ResultsKept s t ∨ (c = some .start ∧ t = cmdStart s) ∨ (c = some .abort ∧ t = cmdAbort s)
    ∨ (c = some .next ∧ t = cmdNext s)

theorem commandWrite_effect (w : Word) (s : State) : HostEffect (decodeCommand w).toOption s (commandWrite w s) := by
  rcases commandWrite_cases w s with
    ⟨_, he⟩ | ⟨hd, he⟩ | ⟨hd, he⟩ | ⟨hd, he⟩ | ⟨_, he⟩ | ⟨alg, _, he⟩ | ⟨b, _, he⟩ | ⟨_, _, he⟩ <;> rw [he]
  · exact .inl (.refl s)
  · rw [hd]; exact .inr (.inl ⟨rfl, rfl⟩)
  · rw [hd]; exact .inr (.inr (.inl ⟨rfl, rfl⟩))
  · rw [hd]; exact .inr (.inr (.inr ⟨rfl, rfl⟩))
  · exact .inl (cmdTrkclr_results s)
  · exact .inl (cmdCkinit_results alg s)
  · exact .inl (cmdCkbyte_results b s)
  · exact .inl (.refuse s)

theorem writeAt_effect (addr : Byte) (v : Word) (s : State) :
    HostEffect (Instr.csrwr addr v).command s (writeAt addr v s) := by
  rcases writeAt_cases addr v s with ⟨hcmd, he⟩ | ⟨f, he⟩ | ⟨x, he⟩ | ⟨_, x, he⟩ | ⟨x, he⟩ | he <;> rw [he]
  · rw [Instr.command, if_pos hcmd]; exact commandWrite_effect v s
  · rcases lockedWrite_cases f s with ⟨_, hl⟩ | ⟨_, hl⟩ <;> rw [hl]
    exacts [.inl ⟨rfl, rfl, rfl, rfl⟩, .inl (.refuse s)]
  · exact .inl ⟨rfl, rfl, rfl, rfl⟩
  · exact .inl ⟨rfl, rfl, rfl, rfl⟩
  · exact .inl ⟨rfl, rfl, rfl, rfl⟩
  · exact .inl (.refl s)

/-- Every operation that is no token has a host's effect. -/
theorem exec_host_effect {i : Instr} (hi : i.isToken = false) (h : exec i s = .next t) : HostEffect i.command s t := by
  cases i with
  | period | eos | index | rsv => cases hi
  | nop => obtain rfl := Host.Outcome.next.inj h; exact .inl (.refl s)
  | start => obtain rfl := Host.Outcome.next.inj h; exact .inr (.inl ⟨rfl, rfl⟩)
  | abort => obtain rfl := Host.Outcome.next.inj h; exact .inr (.inr (.inl ⟨rfl, rfl⟩))
  | next => obtain rfl := Host.Outcome.next.inj h; exact .inr (.inr (.inr ⟨rfl, rfl⟩))
  | trkclr => obtain rfl := Host.Outcome.next.inj h; exact .inl (cmdTrkclr_results s)
  | ckinit alg => obtain rfl := Host.Outcome.next.inj h; exact .inl (cmdCkinit_results alg s)
  | ckbyte b => obtain rfl := Host.Outcome.next.inj h; exact .inl (cmdCkbyte_results b s)
  | csrrd addr =>
    obtain rfl := Host.Outcome.next.inj h
    rw [readEffect_eq]
    exact .inl ⟨rfl, rfl, rfl, rfl⟩
  | csrwr addr v => obtain rfl := Host.Outcome.next.inj h; exact writeAt_effect addr v s

/-- No token is consumed in a hold state (46_commands.md R269). -/
theorem token_held {i : Instr} (hi : i.isToken = true) (hr : s.ready = false) (h : exec i s = .next t) : t = s := by
  cases i with
  | period p =>
    rcases execPeriod_frame h with ⟨_, hself⟩ | ⟨hready, _⟩
    · exact hself
    · exact absurd (hr.symm.trans hready) Bool.false_ne_true
  | eos | index | rsv =>
    obtain rfl := Host.Outcome.next.inj h
    exact if_neg (by simp [hr])
  | nop | start | abort | next | trkclr | ckinit | ckbyte | csrrd | csrwr => cases hi

end

/-- Settles O57: a token waits, and of the host's operations only an accepted START, an ABORT and an accepted NEXT do more than keep
the results. -/
theorem holdStatesKeepResults : Obligations.HoldStatesKeepResults := by
  intro i s t hhold h habort hstart hnext
  have hready : s.ready = false := by
    rw [← Bool.not_eq_true, State.ready_iff]
    rintro ⟨hi, hd, he, hv⟩
    rcases hhold with hst | hst | hst | hst
    exacts [hi hst, hd hst, he hst, hv hst]
  have hkept : ResultsKept s t := by
    cases htok : i.isToken with
    | true => rw [token_held htok hready h]; exact .refl s
    | false =>
      rcases exec_host_effect htok h with hkept | ⟨hc, rfl⟩ | ⟨hc, _⟩ | ⟨hc, rfl⟩
      · exact hkept
      · rw [cmdStart_refused (by rw [hstart hc]; rfl)]; exact .refuse s
      · exact absurd hc habort
      · rw [cmdNext_refused (hnext hc)]; exact .refuse s
  exact ⟨hkept.st, hkept.ses, hkept.buf⟩

/-! ## The byte that a PERIOD stores -/

/-! ### Rules that store no byte -/

section
variable {s t : State} {p : Half} {b : Byte} {idx : Word} {a : Nat}

theorem findPilot_bufRead : (findPilot p s).bufRead a = s.bufRead a := by
  unfold findPilot pilotAccumulate
  split_ifs <;> rfl

theorem pilotSync1_bufRead : (pilotSync1 p idx s).bufRead a = s.bufRead a := by
  unfold pilotSync1
  split_ifs <;> rfl

theorem pilotSync0_bufRead : (pilotSync0 p idx s).bufRead a = s.bufRead a := by
  unfold pilotSync0
  split_ifs <;> rfl

theorem strictMarker_bufRead {done : State → State} (hdone : (done s).bufRead a = s.bufRead a) :
    (strictMarker done p idx s).bufRead a = s.bufRead a := by
  unfold strictMarker
  split
  · unfold strictLead; split_ifs <;> rfl
  · unfold strictBody; split <;> rfl
  · unfold strictFinal; split_ifs <;> rfl
  · unfold strictSync1; split_ifs <;> rfl
  · unfold strictSync0; split_ifs; exacts [rfl, hdone]

theorem seekMarker_bufRead (h : seekMarker p s = .next t) : t.bufRead a = s.bufRead a := by
  rcases seekMarker_next h with ⟨_, rfl⟩ | ⟨_, rfl⟩ | ⟨_, rfl⟩
  · unfold seekLead; split_ifs <;> rfl
  · unfold seekSync1; split <;> rfl
  · unfold seekSync0; split <;> rfl

theorem trailerMarker_bufRead (h : trailerMarker p s = .next t) : t.bufRead a = s.bufRead a := by
  rcases trailerMarker_next h with ⟨_, rfl⟩ | ⟨_, rfl⟩ | ⟨_, rfl⟩
  · unfold trailerLead; split <;> rfl
  · rfl
  · rfl

theorem headerDone_bufRead : (headerDone idx s).bufRead a = s.bufRead a := by
  dsimp only [headerDone, help7Detect]
  split_ifs <;> rfl

theorem deliverHeader_bufRead (h : deliverHeader b idx s = .next t) : t.bufRead a = s.bufRead a := by
  obtain ⟨_, ⟨_, rfl⟩ | ⟨_, rfl⟩⟩ := deliverHeader_next h
  exacts [headerDone_bufRead, rfl]

theorem deliverChecksum_bufRead (h : deliverChecksum b idx s = .next t) : t.bufRead a = s.bufRead a := by
  dsimp only [deliverChecksum] at h
  split at h <;> obtain rfl := Host.Outcome.next.inj h <;> rfl

theorem blockHeaderDone_bufRead (h : blockHeaderDone idx s = .next t) : t.bufRead a = s.bufRead a := by
  rcases blockHeaderDone_next h with ⟨_, rfl⟩ | ⟨_, _, ⟨_, rfl⟩ | ⟨_, rfl⟩⟩ <;> rfl

theorem deliverBlockHeader_bufRead (h : deliverBlockHeader b idx s = .next t) : t.bufRead a = s.bufRead a := by
  obtain ⟨_, ⟨_, hdone⟩ | ⟨_, rfl⟩⟩ := deliverBlockHeader_next h
  · exact (blockHeaderDone_bufRead hdone).trans rfl
  · rfl

theorem blockAccepted_bufRead (h : blockAccepted s = .next t) : t.bufRead a = s.bufRead a := by
  obtain ⟨_, u, rfl, ⟨_, rfl⟩ | ⟨_, rfl⟩⟩ := blockAccepted_next h <;> rfl

theorem deliverBlockChecksum_bufRead (h : deliverBlockChecksum b idx s = .next t) : t.bufRead a = s.bufRead a := by
  rcases deliverBlockChecksum_next h with ⟨_, rfl⟩ | ⟨_, u, rfl, ⟨_, hacc⟩ | ⟨_, rfl⟩⟩
  · rfl
  · exact (blockAccepted_bufRead hacc).trans rfl
  · rfl

theorem findHeader_bufRead : (findHeader p s).bufRead a = s.bufRead a := by
  dsimp only [findHeader]
  split <;> rfl

theorem findData_bufRead : (findData p idx s).bufRead a = s.bufRead a := by
  dsimp only [findData]
  split_ifs <;> rfl

theorem headerSizeStep_bufRead : (headerSizeStep idx s).bufRead a = s.bufRead a := by
  unfold headerSizeStep
  split <;> rfl

theorem headerCrcStep_bufRead : (headerCrcStep b idx s).bufRead a = s.bufRead a := by
  dsimp only [headerCrcStep]
  split_ifs
  exacts [headerSizeStep_bufRead, headerSizeStep_bufRead, rfl]

theorem deliverSectorHeader_bufRead : (deliverSectorHeader b idx s).bufRead a = s.bufRead a := by
  obtain ⟨c, _, hfield⟩ := storeSectorField_eq s.ses.byteidx.toNat b s
  dsimp only [deliverSectorHeader]
  rw [hfield]
  split_ifs
  exacts [rfl, rfl, rfl, headerCrcStep_bufRead]

theorem dataCrcDone_bufRead : (dataCrcDone b idx s).bufRead a = s.bufRead a := by
  obtain ⟨k, hk⟩ := recordSector_eq (latchDataCrc b s)
  dsimp only [dataCrcDone]
  rw [hk]
  split_ifs <;> rfl

theorem dataPeriodBad_bufRead : (dataPeriodBad idx s).bufRead a = s.bufRead a := by
  dsimp only [dataPeriodBad]
  split_ifs <;> rfl

theorem eosByState_bufRead : (eosByState s).bufRead a = s.bufRead a := by
  have hsearch : (diskEosSearch s).bufRead a = s.bufRead a := by
    unfold diskEosSearch; split_ifs <;> rfl
  have hdata : (diskEosData s).bufRead a = s.bufRead a := by
    dsimp only [diskEosData]; split_ifs <;> rfl
  cases hst : s.st <;> simp only [eosByState, hst]
  case dFindHdr | dReadHdr | dFindData => exact hsearch
  case dReadData => exact hdata
  all_goals rfl

end

/-! ### The stored byte -/

section
variable {s t : State} {p : Half} {b : Byte} {idx : Word} {a : Nat}

theorem storeAddr_tReadData (h : s.st = .tReadData) : s.storeAddr = some s.ses.byteidx.toNat := by
  simp [State.storeAddr, h]

theorem storeAddr_h7ReadBody (h : s.st = .h7ReadBody) : s.storeAddr = some (blockAddr s) := by
  simp [State.storeAddr, h]

theorem storeAddr_dReadData (h : s.st = .dReadData) {n : Nat} :
    s.storeAddr = some n ↔
      1 ≤ s.ses.byteidx.toNat ∧ s.ses.byteidx.toNat ≤ s.ses.sec.size.toNat ∧ s.ses.byteidx.toNat - 1 = n := by
  simp [State.storeAddr, h, and_assoc]

/-- Outside the three states that store, no address is stored to. -/
theorem storeAddr_eq_some {n : Nat} (h : s.storeAddr = some n) :
    s.st = .tReadData ∨ s.st = .h7ReadBody ∨ s.st = .dReadData := by
  cases hst : s.st <;> simp [State.storeAddr, hst] at h <;> simp

/-- A body byte reaches the address `BYTEIDX` only (44_framing_tape.md R202). -/
theorem deliverData_bufRead (ha : a ≠ s.ses.byteidx.toNat) (h : deliverData b idx s = .next t) :
    t.bufRead a = s.bufRead a := by
  rw [deliverData_next] at h
  obtain rfl := Host.Outcome.next.inj h
  split <;> exact s.bufRead_bufWrite_other s.ses.byteidx b ha

/-- A block body byte reaches the address `(BNUM - 1) * H7BLK + BYTEIDX` only (44_framing_tape.md R214). -/
theorem deliverBlockBody_bufRead (ha : a ≠ blockAddr s) (h : deliverBlockBody b idx s = .next t) :
    t.bufRead a = s.bufRead a := by
  obtain ⟨hlt, rfl⟩ := deliverBlockBody_next h
  have haddr : a ≠ (BitVec.ofNat 16 (blockAddr s)).toNat := by
    rw [BitVec.toNat_ofNat, Nat.mod_eq_of_lt hlt]
    exact ha
  split <;> exact s.bufRead_bufWrite_other _ b haddr

/-- A period of a byte-reading tape state stores what the field's byte rule stores. -/
theorem tapeBytePeriod_bufRead {v : Fatal → Word → State → State} {d : Byte → Word → State → Res}
    (hv : ∀ e, (v e idx s).bufRead a = s.bufRead a)
    (hd : ∀ c x, d c idx { s with ses.bits := x } = .next t → t.bufRead a = s.bufRead a)
    (h : tapeBytePeriod v d p idx s = .next t) : t.bufRead a = s.bufRead a := by
  unfold tapeBytePeriod at h
  split at h
  · rcases tapeSyncPeriod_next h with ⟨_, rfl⟩ | ⟨_, _, hbyte⟩ | ⟨_, _, rfl⟩
    · exact hv _
    · exact hd _ _ hbyte
    · rfl
  · rw [tapeDataPeriod_next] at h
    obtain rfl := Host.Outcome.next.inj h
    split
    exacts [hv _, rfl]

/-- Raw bits that do not fill the shifter complete no byte (42_demod.md R165). -/
theorem pushRaw_of_few {d : Byte → Word → State → State} (rs : List Bool) (s : State)
    (hfew : s.ses.rawb.rawcnt.toNat + rs.length < 16) : ∃ x, pushRaw d idx rs s = { s with ses.rawb := x } := by
  induction rs generalizing s with
  | nil => exact ⟨s.ses.rawb, rfl⟩
  | cons r rs ih =>
    rw [List.length_cons] at hfew
    have hcnt : (s.ses.rawb.rawcnt + 1).toNat = s.ses.rawb.rawcnt.toNat + 1 := by bv_omega
    have hne : s.ses.rawb.rawcnt + 1 ≠ 16 := by bv_omega
    rw [pushRaw_bit hne]
    exact ih _ (by show (s.ses.rawb.rawcnt + 1).toNat + _ < 16; omega)

/-- At most 16 raw bits complete at most one byte, which is delivered in the state before but for `RAW` and `RAWCNT`
(42_demod.md R165). -/
theorem pushRaw_one_byte {d : Byte → Word → State → State} (hd : ∀ c u, (d c idx u).ses.rawb = u.ses.rawb)
    (rs : List Bool) (s : State) (hlen : rs.length ≤ 16) :
    (∃ x, pushRaw d idx rs s = { s with ses.rawb := x })
      ∨ ∃ c x y, pushRaw d idx rs s = { d c idx { s with ses.rawb := x } with ses.rawb := y } := by
  induction rs generalizing s with
  | nil => exact .inl ⟨s.ses.rawb, rfl⟩
  | cons r rs ih =>
    rw [List.length_cons] at hlen
    by_cases hfull : s.ses.rawb.rawcnt + 1 = 16
    · right
      unfold pushRaw
      dsimp only
      rw [if_pos hfull]
      split
      · refine ⟨_, _, pushRaw_of_few rs _ ?_⟩
        rw [hd]
        show 0 + rs.length < 16
        omega
      · exact ⟨_, _, _, rfl⟩
    · rw [pushRaw_bit hfull]
      exact ih _ (by omega)

theorem rawBitsOf_length (c : Interval) : (rawBitsOf c).length ≤ 16 := by cases c <;> decide

theorem dataCrcDone_rawb : (dataCrcDone b idx s).ses.rawb = s.ses.rawb := by
  obtain ⟨k, hk⟩ := recordSector_eq (latchDataCrc b s)
  dsimp only [dataCrcDone]
  rw [hk]
  split_ifs <;> rfl

theorem deliverSectorData_rawb : (deliverSectorData b idx s).ses.rawb = s.ses.rawb := by
  dsimp only [deliverSectorData, dataMark]
  split_ifs
  exacts [rfl, rfl, rfl, rfl, dataCrcDone_rawb]

/-- A payload byte reaches the address `BYTEIDX - 1` only; the other bytes of the field are not stored (45_framing_disk.md R237,
R240). -/
theorem deliverSectorData_bufRead (hst : s.st = .dReadData) (ha : s.storeAddr ≠ some a) :
    (deliverSectorData b idx s).bufRead a = s.bufRead a := by
  dsimp only [deliverSectorData]
  split_ifs with hmark hpay
  · unfold dataMark; split_ifs <;> rfl
  · have haddr : a ≠ (s.ses.byteidx - 1).toNat := by
      have hsub : (s.ses.byteidx - 1).toNat = s.ses.byteidx.toNat - 1 := by bv_omega
      rw [hsub]
      rintro rfl
      exact ha ((storeAddr_dReadData hst).2 ⟨by omega, hpay, rfl⟩)
    exact s.bufRead_bufWrite_other _ b haddr
  · rfl
  · exact dataCrcDone_bufRead

theorem headerPeriod_bufRead :
    (diskBytePeriod headerPeriodBad deliverSectorHeader p idx s).bufRead a = s.bufRead a := by
  unfold diskBytePeriod
  split
  · rfl
  · exact pushRaw_keeps (P := fun u => u.bufRead a = s.bufRead a) (fun _ _ hu _ => hu)
      (fun _ _ hu _ => deliverSectorHeader_bufRead.trans hu) _ s rfl

/-- A period in `D_READ_DATA` delivers at most one byte, so that it stores at the address of the state before it only. -/
theorem dataPeriod_bufRead (hst : s.st = .dReadData) (ha : s.storeAddr ≠ some a) :
    (diskBytePeriod dataPeriodBad deliverSectorData p idx s).bufRead a = s.bufRead a := by
  unfold diskBytePeriod
  split
  · exact dataPeriodBad_bufRead
  next c _ =>
    rcases pushRaw_one_byte (idx := idx) (fun _ _ => deliverSectorData_rawb) (rawBitsOf c) s (rawBitsOf_length c) with
      ⟨x, hbits⟩ | ⟨c, x, y, hbyte⟩
    · rw [hbits]; rfl
    · rw [hbyte]
      exact deliverSectorData_bufRead (s := { s with ses.rawb := x }) hst ha

/-- After the common step, a period stores at the address of its state only. -/
theorem periodByState_bufRead (ha : s.storeAddr ≠ some a) (h : periodByState p idx s = .next t) :
    t.bufRead a = s.bufRead a := by
  have hfile : ∀ e, (fileViolation e idx s).bufRead a = s.bufRead a := fun _ => rfl
  have hblock : ∀ e, (help7Violation e idx s).bufRead a = s.bufRead a := fun _ => rfl
  cases hst : s.st <;> simp only [periodByState, hst] at h
  case tEndTrailer => exact trailerMarker_bufRead h
  case h7Seek => exact seekMarker_bufRead h
  case tReadHdr => exact tapeBytePeriod_bufRead hfile (fun _ _ => deliverHeader_bufRead) h
  case tReadData =>
    rw [storeAddr_tReadData hst] at ha
    exact tapeBytePeriod_bufRead hfile (fun _ _ => deliverData_bufRead fun he => ha (congrArg some he.symm)) h
  case tChecksum => exact tapeBytePeriod_bufRead hfile (fun _ _ => deliverChecksum_bufRead) h
  case h7ReadBhdr => exact tapeBytePeriod_bufRead hblock (fun _ _ => deliverBlockHeader_bufRead) h
  case h7ReadBody =>
    rw [storeAddr_h7ReadBody hst] at ha
    exact tapeBytePeriod_bufRead hblock (fun _ _ => deliverBlockBody_bufRead fun he => ha (congrArg some he.symm)) h
  case h7Bcksum => exact tapeBytePeriod_bufRead hblock (fun _ _ => deliverBlockChecksum_bufRead) h
  all_goals obtain rfl := Host.Outcome.next.inj h
  case idle | done | error | dDeliver => rfl
  case tFindPilot => exact findPilot_bufRead
  case tPilotFound => exact pilotSync1_bufRead
  case tPilotFound2 => exact pilotSync0_bufRead
  case tHdrMarker | tBodyMarker => exact strictMarker_bufRead rfl
  case dFindHdr => exact findHeader_bufRead
  case dFindData => exact findData_bufRead
  case dReadHdr => exact headerPeriod_bufRead
  case dReadData => exact dataPeriod_bufRead hst ha

theorem execPeriod_bufRead (ha : s.storeAddr ≠ some a) (h : execPeriod p s = .next t) : t.bufRead a = s.bufRead a := by
  unfold execPeriod at h
  split_ifs at h
  · obtain rfl := Host.Outcome.next.inj h; rfl
  · obtain rfl := Host.Outcome.next.inj h; rfl
  · exact periodByState_bufRead (s := s.countPeriod) ha h

/-! ### Operations that store no byte -/

theorem HostEffect.bufRead {c : Option Instr} (h : HostEffect c s t) : t.bufRead a = s.bufRead a := by
  rcases h with hkept | ⟨_, rfl⟩ | ⟨_, rfl⟩ | ⟨_, rfl⟩
  · exact State.bufRead_congr hkept.buf hkept.epoch a
  · unfold cmdStart; split_ifs <;> rfl
  · rfl
  · unfold cmdNext; split_ifs <;> rfl

/-- No operation but PERIOD writes `BUF` (20_memory.md R72, R77). -/
theorem exec_bufRead {i : Instr} (hp : ∀ p, i ≠ .period p) (h : exec i s = .next t) : t.bufRead a = s.bufRead a := by
  cases htok : i.isToken with
  | false => exact (exec_host_effect htok h).bufRead
  | true =>
    cases i with
    | period p => exact absurd rfl (hp p)
    | eos =>
      obtain rfl := Host.Outcome.next.inj h
      split
      exacts [eosByState_bufRead, rfl]
    | index | rsv => obtain rfl := Host.Outcome.next.inj h; split <;> rfl
    | nop | start | abort | next | trkclr | ckinit | ckbyte | csrrd | csrwr => cases htok

end

/-- Settles O53: only PERIOD runs a rule that stores, at most once, and at `storeAddr` of the state before. -/
theorem memoryFrame : Obligations.MemoryFrame := by
  intro i s t a h hi
  by_cases hp : ∃ p, i = .period p
  · obtain ⟨p, rfl⟩ := hp
    exact execPeriod_bufRead (hi.resolve_left fun hno => hno p rfl) h
  · exact exec_bufRead (fun p he => hp ⟨p, he⟩) h

/-! ## The stored byte belongs to the file or the sector -/

/-- Settles O54: `BYTEIDX` lies in its field by the invariant, and a block lies below LENGTH by its header. -/
theorem storesStayInTheFile : Obligations.StoresStayInTheFile := by
  intro s a h ha
  have hlen := s.ses.rcd.length.isLt
  obtain ⟨_, hbody, _⟩ := h.byteIndex
  rcases storeAddr_eq_some ha with hst | hst | hst
  · obtain rfl := Option.some.inj ((storeAddr_tReadData hst).symm.trans ha)
    have hidx := hbody hst
    exact ⟨by omega, fun _ => hidx, by simp [hst, Ctl.isDisk]⟩
  · obtain rfl := Option.some.inj ((storeAddr_h7ReadBody hst).symm.trans ha)
    have haddr := h.blockAddr_lt hst
    exact ⟨by omega, fun _ => haddr, by simp [hst, Ctl.isDisk]⟩
  · obtain ⟨hpos, hle, rfl⟩ := (storeAddr_dReadData hst).1 ha
    have hidx := s.ses.byteidx.isLt
    exact ⟨by omega, by simp [hst, Ctl.isTape], fun _ => by omega⟩

end Sys2Proof.Machine

namespace Sys2Proof.Machine

/-! SUPPORT and certificates: the encoding. First the decoder read as a table of its fields, word by word of 30_encoding.md R91 to
R94, then the round trip with the encoder. -/

/-! ## The decoder, field by field -/

/-! ### Tokens -/

theorem decode_period_word (len : Half) : decode (.token (0#2 ++ len)) = .ok (.period len) := by
  have hkind : (0#2 ++ len : BitVec 18).extractLsb' 16 2 = 0#2 := BitVec.extractLsb'_append_eq_left
  have hlen : (0#2 ++ len : BitVec 18).extractLsb' 0 16 = len := BitVec.extractLsb'_append_eq_right
  simp [decode, decodeToken, hkind, hlen]

theorem decode_eos_word (len : Half) : decode (.token (1#2 ++ len)) = .ok .eos := by
  have hkind : (1#2 ++ len : BitVec 18).extractLsb' 16 2 = 1#2 := BitVec.extractLsb'_append_eq_left
  simp [decode, decodeToken, hkind]

theorem decode_index_word (len : Half) : decode (.token (2#2 ++ len)) = .ok .index := by
  have hkind : (2#2 ++ len : BitVec 18).extractLsb' 16 2 = 2#2 := BitVec.extractLsb'_append_eq_left
  simp [decode, decodeToken, hkind]

theorem decode_rsv_word (len : Half) : decode (.token (3#2 ++ len)) = .ok .rsv := by
  have hkind : (3#2 ++ len : BitVec 18).extractLsb' 16 2 = 3#2 := BitVec.extractLsb'_append_eq_left
  simp [decode, decodeToken, hkind]

/-! ### Command words -/

/-- The fields of a command word (30_encoding.md R92). -/
theorem commandWord_op (hi : Half) (arg op : Byte) : (hi ++ arg ++ op : Word).extractLsb' 0 8 = op :=
  BitVec.extractLsb'_append_eq_right

theorem commandWord_arg (hi : Half) (arg op : Byte) : (hi ++ arg ++ op : Word).extractLsb' 8 8 = arg :=
  (BitVec.extractLsb'_append_eq_of_le (Nat.le_refl 8)).trans BitVec.extractLsb'_append_eq_right

/-- The decoder of command words as the table of 30_encoding.md R93, on `op` and `arg`. -/
theorem decodeCommand_eq (w : Word) : decodeCommand w =
    if w.extractLsb' 0 8 = 0x00 then .ok .nop else if w.extractLsb' 0 8 = 0x01 then .ok .start
    else if w.extractLsb' 0 8 = 0x02 then .ok .abort else if w.extractLsb' 0 8 = 0x03 then .ok .next
    else if w.extractLsb' 0 8 = 0x04 then .ok .trkclr
    else if w.extractLsb' 0 8 = 0x10 then .ok (.ckinit ((w.extractLsb' 8 8).getLsbD 0))
    else if w.extractLsb' 0 8 = 0x11 then .ok (.ckbyte (w.extractLsb' 8 8))
    else .error (.reservedOp (w.extractLsb' 0 8)) := by
  unfold decodeCommand
  split <;> simp_all [← BitVec.toNat_inj]

/-- A reserved `op` is no command (30_encoding.md R97). -/
theorem decodeCommand_reserved {w : Word} (h : w.extractLsb' 0 8 ∉ Instr.commandOps) :
    decodeCommand w = .error (.reservedOp (w.extractLsb' 0 8)) := by
  simp only [Instr.commandOps, List.mem_cons, List.not_mem_nil, or_false, not_or] at h
  obtain ⟨h0, h1, h2, h3, h4, h10, h11⟩ := h
  rw [decodeCommand_eq, if_neg h0, if_neg h1, if_neg h2, if_neg h3, if_neg h4, if_neg h10, if_neg h11]

/-! ### Bus words -/

/-- The fields of a bus word (30_encoding.md R94). -/
theorem busWord_addr (we re : BitVec 1) (addr : Byte) : (we ++ re ++ addr : BitVec 10).extractLsb' 0 8 = addr :=
  BitVec.extractLsb'_append_eq_right

theorem busWord_re (we re : BitVec 1) (addr : Byte) : (we ++ re ++ addr : BitVec 10).getLsbD 8 = re.getLsbD 0 :=
  (getLsbD_append_high _ _ (Nat.le_refl 8)).trans BitVec.getLsbD_append

theorem busWord_we (we re : BitVec 1) (addr : Byte) : (we ++ re ++ addr : BitVec 10).getLsbD 9 = we.getLsbD 0 :=
  (getLsbD_append_high _ _ (by decide)).trans (getLsbD_append_high _ _ (Nat.le_refl 1))

theorem isCmdOffset_iff {addr : Byte} : Instr.isCmdOffset addr = true ↔ addr.extractLsb' 2 6 = 1 := by
  simp [Instr.isCmdOffset]

/-- The decoder of bus words on its fields: a write goes before a read (10_state.md R21), and a write of `CMD` is the command of
its word, with a reserved `op` the plain write. -/
theorem decode_bus_word (we re : BitVec 1) (addr : Byte) (data : Word) : decode (.bus (we ++ re ++ addr) data) =
    if we.getLsbD 0 then
      .ok (if addr.extractLsb' 2 6 = 1 then (decodeCommand data).toOption.getD (.csrwr addr data) else .csrwr addr data)
    else if re.getLsbD 0 then .ok (.csrrd addr) else .error .noStrobe := by
  simp only [decode, decodeBus, busWord_we, busWord_re, busWord_addr, isCmdOffset_iff]
  by_cases ha : addr.extractLsb' 2 6 = 1
  · rw [if_pos ha, if_pos ha]
    cases decodeCommand data <;> rfl
  · rw [if_neg ha, if_neg ha]

theorem decode_cmd_write {addr : Byte} (ha : addr.extractLsb' 2 6 = 1) (re : BitVec 1) (data : Word) :
    decode (.bus (1#1 ++ re ++ addr) data) = .ok ((decodeCommand data).toOption.getD (.csrwr addr data)) := by
  rw [decode_bus_word, if_pos (by decide), if_pos ha]

theorem decode_plain_write {addr : Byte} (ha : addr.extractLsb' 2 6 ≠ 1) (re : BitVec 1) (data : Word) :
    decode (.bus (1#1 ++ re ++ addr) data) = .ok (.csrwr addr data) := by
  rw [decode_bus_word, if_pos (by decide), if_neg ha]

theorem decode_read (addr : Byte) (data : Word) : decode (.bus (0#1 ++ 1#1 ++ addr) data) = .ok (.csrrd addr) :=
  decode_bus_word 0#1 1#1 addr data

theorem decode_no_strobe (addr : Byte) (data : Word) : decode (.bus (0#1 ++ 0#1 ++ addr) data) = .error .noStrobe :=
  decode_bus_word 0#1 0#1 addr data

/-- A command word written to `CMD` decodes to what its `op` and `arg` say. -/
theorem decode_commandWord {op arg : Byte} {i : Instr} (h : decodeCommand (0#16 ++ arg ++ op) = .ok i) :
    decode (commandWord op arg) = .ok i := by
  rw [commandWord, decode_cmd_write (by decide), h]
  rfl

/-! ## Decoding and encoding agree -/

/-- A write of `CMD` that is well-formed carries a reserved `op`. -/
theorem wellFormed_csrwr {addr : Byte} {data : Word} (h : (Instr.csrwr addr data).wellFormed = true)
    (ha : addr.extractLsb' 2 6 = 1) : data.extractLsb' 0 8 ∉ Instr.commandOps := by
  simpa [Instr.wellFormed, isCmdOffset_iff.2 ha] using h

/-- Settles O1: each constructor's word is one of the decoder's rows, and a well-formed write of `CMD` is the reserved row. -/
theorem decodeEncodeRoundTrip : Obligations.DecodeEncodeRoundTrip := by
  intro i hwf
  cases i with
  | period len => exact decode_period_word len
  | eos => exact decode_eos_word 0
  | index => exact decode_index_word 0
  | rsv => exact decode_rsv_word 0
  | nop | start | abort | next | trkclr => exact decode_commandWord rfl
  | ckinit alg =>
    refine decode_commandWord ?_
    have harg : (0#7 ++ BitVec.ofBool alg : Byte).getLsbD 0 = alg := getLsbD_append_bit1 _ alg
    rw [decodeCommand_eq, commandWord_op, commandWord_arg, harg]
    rfl
  | ckbyte b =>
    refine decode_commandWord ?_
    rw [decodeCommand_eq, commandWord_op, commandWord_arg]
    rfl
  | csrrd addr => exact decode_read addr 0
  | csrwr addr data =>
    by_cases ha : addr.extractLsb' 2 6 = 1
    · have hres := decodeCommand_reserved (wellFormed_csrwr hwf ha)
      exact (decode_cmd_write ha _ data).trans (by rw [hres]; rfl)
    · exact decode_plain_write ha _ data

/-- Settles O2: the rows of the decoder, with the ignored bits free. -/
theorem operationWords : Obligations.OperationWords := by
  refine ⟨fun len => ⟨decode_period_word len, decode_eos_word len, decode_index_word len, decode_rsv_word len⟩,
    fun re low hi arg op => ?_, fun re addr data ha => decode_plain_write ha re data, decode_read, decode_no_strobe⟩
  have hcmd : (1#6 ++ low : Byte).extractLsb' 2 6 = 1 := BitVec.extractLsb'_append_eq_left
  rw [decode_cmd_write hcmd, decodeCommand_eq, commandWord_op, commandWord_arg]
  congr 1
  split_ifs <;> rfl

/-- Settles O3: nine words of 30_encoding.md, evaluated. -/
theorem specWordsDecode : Obligations.SpecWordsDecode :=
  ⟨rfl, rfl, rfl, rfl, rfl, rfl, rfl, rfl, rfl⟩

end Sys2Proof.Machine

namespace Sys2Proof.Machine

/-! SUPPORT and certificates: the header marker (41_marker.md R137 to R143), phase by phase, and the marker of 30_encoding.md R103
read through. -/

/-! ## Streams of periods -/

theorem execPeriods_cons {p : Half} {s t : State} (h : exec (.period p) s = .next t) (ps : List Half) :
    execPeriods (p :: ps) s = execPeriods ps t := by
  rw [execPeriods, h]

theorem execPeriods_append {ps : List Half} {s t : State} (h : execPeriods ps s = .next t) (qs : List Half) :
    execPeriods (ps ++ qs) s = execPeriods qs t := by
  induction ps generalizing s with
  | nil => rw [List.nil_append, Host.Outcome.next.inj h]
  | cons p ps ih =>
    cases hp : exec (.period p) s with
    | next u =>
      rw [execPeriods_cons hp] at h
      rw [List.cons_append, execPeriods_cons hp, ih h]
    | fault r => simp [execPeriods, hp] at h
    | refused r => simp [execPeriods, hp] at h

/-! ## The phases of the header marker -/

/-- The period classes as comparisons of the length in Q8 (42_demod.md R156). -/
theorem isOne_iff {t : Thresholds} {p : Half} : isOne t p = true ↔ t.cutoff.toNat < p.toNat * 256 := by
  simp [isOne, Nat.shiftLeft_eq]

theorem isOne_eq_false_iff {t : Thresholds} {p : Half} : isOne t p = false ↔ p.toNat * 256 ≤ t.cutoff.toNat := by
  simp [isOne, Nat.shiftLeft_eq]

theorem tooLong_eq_false_iff {t : Thresholds} {p : Half} : tooLong t p = false ↔ p.toNat * 256 ≤ t.maxlen.toNat := by
  simp [tooLong, Nat.shiftLeft_eq]

theorem syncOk_iff {t : Thresholds} {p : Half} : syncOk t p = true ↔ p.toNat * 256 < t.cutoff.toNat := by
  simp [syncOk, Nat.shiftLeft_eq]

/-- A period above a bound is none of length 0. -/
theorem ne_zero_of_isOne {t : Thresholds} {p : Half} (h : isOne t p = true) : p ≠ 0 := by
  rintro rfl
  simp [isOne] at h

section
variable {s : State} {p : Half}

/-- A counted period that takes the marker to another phase and changes nothing else (41_marker.md R140, R141). -/
def State.countInto (s : State) (ms : Phase) : State := { s.countPeriod with ses.mark.ms := ms }

/-- PERIOD in `T_HDR_MARKER`: it is counted, then the strict marker's rule runs (46_commands.md R271, R275). -/
theorem exec_hdrMarker (hst : s.st = .tHdrMarker) (hp : p ≠ 0) :
    exec (.period p) s = .next (strictMarker hdrMarkerDone p s.ses.pos s.countPeriod) := by
  have hready := State.ready_of_st hst rfl
  rw [exec, execPeriod, if_neg (by simp [hready]), if_neg hp, periodByState, State.countPeriod_st, hst]

theorem exec_hdrMarker_lead (hst : s.st = .tHdrMarker) (hms : s.ses.mark.ms = .lead) (hp : p ≠ 0)
    (hzero : isOne s.ses.thr p = false) :
    exec (.period p) s = .next { s.countPeriod with ses.mark.mcnt := 1, ses.mark.ms := .body } := by
  rw [exec_hdrMarker hst hp]
  simp [strictMarker, hms, strictLead, hzero]

theorem exec_hdrMarker_body (hst : s.st = .tHdrMarker) (hms : s.ses.mark.ms = .body) (hp : p ≠ 0)
    (hzero : isOne s.ses.thr p = false) :
    exec (.period p) s = .next { s.countPeriod with
      ses.mark.mcnt := satInc s.ses.mark.mcnt
      ses.mark.ms := if (satInc s.ses.mark.mcnt).toNat = 8 then .final else .body } := by
  rw [exec_hdrMarker hst hp]
  simp [strictMarker, hms, strictBody, hzero]
  rfl

theorem exec_hdrMarker_final (hst : s.st = .tHdrMarker) (hms : s.ses.mark.ms = .final) (hone : isOne s.ses.thr p = true) :
    exec (.period p) s = .next (s.countInto .sync1) := by
  rw [exec_hdrMarker hst (ne_zero_of_isOne hone)]
  simp [strictMarker, hms, strictFinal, hone, State.countInto]

theorem exec_hdrMarker_sync1 (hst : s.st = .tHdrMarker) (hms : s.ses.mark.ms = .sync1) (hone : isOne s.ses.thr p = true)
    (hlong : tooLong s.ses.thr p = false) :
    exec (.period p) s = .next (s.countInto .sync0) := by
  rw [exec_hdrMarker hst (ne_zero_of_isOne hone)]
  simp [strictMarker, hms, strictSync1, hone, hlong, State.countInto]

theorem exec_hdrMarker_sync0 (hst : s.st = .tHdrMarker) (hms : s.ses.mark.ms = .sync0) (hp : p ≠ 0)
    (hsync : syncOk s.ses.thr p = true) :
    exec (.period p) s = .next (hdrMarkerDone s.countPeriod) := by
  rw [exec_hdrMarker hst hp]
  simp [strictMarker, hms, strictSync0, hsync]

end

/-! ## The marker read through -/

/-- The state `s` after the first `n` zero periods of the strict marker, for `n` from 1 to 8. -/
def State.afterZeros (s : State) (n : Nat) : State :=
  { s with
    ses.pos := s.ses.pos + BitVec.ofNat 32 n
    ses.mark.mcnt := BitVec.ofNat 8 n
    ses.mark.ms := if n = 8 then .final else .body }

section
variable {s : State} {z : Half} {n : Nat}

/-- The first zero period leaves `M_LEAD` (41_marker.md R138). -/
theorem exec_firstZero (hst : s.st = .tHdrMarker) (hms : s.ses.mark.ms = .lead) (hz : z ≠ 0)
    (hzero : isOne s.ses.thr z = false) : exec (.period z) s = .next (s.afterZeros 1) :=
  exec_hdrMarker_lead hst hms hz hzero

/-- One more zero period counts one further (41_marker.md R139). -/
theorem exec_nextZero (hst : s.st = .tHdrMarker) (hn : n < 8) (hz : z ≠ 0) (hzero : isOne s.ses.thr z = false) :
    exec (.period z) (s.afterZeros n) = .next (s.afterZeros (n + 1)) := by
  have hms : (s.afterZeros n).ses.mark.ms = .body := if_neg (Nat.ne_of_lt hn)
  have hcount : satInc (BitVec.ofNat 8 n) = BitVec.ofNat 8 (n + 1) := by
    interval_cases n <;> rfl
  have hpos : s.ses.pos + BitVec.ofNat 32 n + 1 = s.ses.pos + BitVec.ofNat 32 (n + 1) := by
    rw [BitVec.add_assoc, BitVec.ofNat_add]
    rfl
  have hval : (BitVec.ofNat 8 (n + 1)).toNat = n + 1 := Nat.mod_eq_of_lt (by omega)
  rw [exec_hdrMarker_body (s := s.afterZeros n) hst hms hz hzero]
  simp only [State.afterZeros, State.countPeriod, hcount, hpos, hval]

/-- Zero periods up to the eighth, by induction on the rest of them. -/
theorem execPeriods_zeros (hst : s.st = .tHdrMarker) (zs : List Half) (hlen : n + zs.length ≤ 8)
    (hzs : ∀ z ∈ zs, z ≠ 0 ∧ isOne s.ses.thr z = false) :
    execPeriods zs (s.afterZeros n) = .next (s.afterZeros (n + zs.length)) := by
  induction zs generalizing n with
  | nil => rfl
  | cons z zs ih =>
    rw [List.length_cons] at hlen ⊢
    obtain ⟨⟨hz, hzero⟩, hrest⟩ := List.forall_mem_cons.1 hzs
    rw [execPeriods_cons (exec_nextZero hst (by omega) hz hzero), ih (by omega) hrest, Nat.add_right_comm, Nat.add_assoc]

/-- Eight zero periods lead from `M_LEAD` to `M_FINAL`. -/
theorem execPeriods_eightZeros (hst : s.st = .tHdrMarker) (hms : s.ses.mark.ms = .lead) {zs : List Half} (hlen : zs.length = 8)
    (hzs : ∀ z ∈ zs, z ≠ 0 ∧ isOne s.ses.thr z = false) : execPeriods zs s = .next (s.afterZeros 8) := by
  cases zs with
  | nil => cases hlen
  | cons z zs =>
    obtain ⟨⟨hz, hzero⟩, hrest⟩ := List.forall_mem_cons.1 hzs
    have hseven : 1 + zs.length = 8 := by rw [Nat.add_comm]; exact hlen
    rw [execPeriods_cons (exec_firstZero hst hms hz hzero), execPeriods_zeros hst zs hseven.le hrest, hseven]

/-- The long terminal and the two sync periods complete the marker (41_marker.md R140 to R143). -/
theorem execPeriods_markerTail {a b c : Half} (hst : s.st = .tHdrMarker) (hms : s.ses.mark.ms = .final)
    (ha : isOne s.ses.thr a = true) (hb : isOne s.ses.thr b = true) (hlong : tooLong s.ses.thr b = false)
    (hc : c ≠ 0) (hsync : syncOk s.ses.thr c = true) :
    execPeriods [a, b, c] s =
      .next (hdrMarkerDone { s with ses.pos := s.ses.pos + 1 + 1 + 1, ses.mark.ms := .sync0 }) := by
  have hfirst := exec_hdrMarker_final hst hms ha
  have hsecond := exec_hdrMarker_sync1 (s := s.countInto .sync1) hst rfl hb hlong
  have hthird := exec_hdrMarker_sync0 (s := (s.countInto .sync1).countInto .sync0) hst rfl hc hsync
  rw [execPeriods_cons hfirst, execPeriods_cons hsecond, execPeriods_cons hthird]
  rfl

end

/-- Settles O33: eight zero periods bring the marker to `M_FINAL`, and the three after them complete it. -/
theorem strictMarkerAccepted : Obligations.StrictMarkerAccepted := by
  intro s zs a b c hst hms hlen hzs ha hb hlong hc hsync
  have hzeros : ∀ z ∈ zs, z ≠ 0 ∧ isOne s.ses.thr z = false := fun z hz =>
    ⟨(hzs z hz).1, isOne_eq_false_iff.2 (hzs z hz).2⟩
  have htail := execPeriods_markerTail (s := s.afterZeros 8) hst rfl (isOne_iff.2 ha) (isOne_iff.2 hb)
    (tooLong_eq_false_iff.2 hlong) hc (syncOk_iff.2 hsync)
  have hpos : s.ses.pos + 8 + 1 + 1 + 1 = s.ses.pos + 11 := by simp only [BitVec.add_assoc]; rfl
  rw [execPeriods_append (execPeriods_eightZeros hst hms hlen hzeros), htail, ← hpos]
  rfl

end Sys2Proof.Machine

namespace Sys2Proof.Machine

/-! SUPPORT and certificates: the calibrator of the tape pilot and the pilot's tail (40_calibrator.md). First its tests and the
branches of a PERIOD in `T_FIND_PILOT`, then a pilot of equal periods, read through. -/

/-! ## The tests of the calibrator -/

theorem absDiff_eq_natAbs (a b : Nat) : absDiff a b = ((a : Int) - b).natAbs := by
  unfold absDiff
  split <;> omega

theorem tooLong_iff {t : Thresholds} {p : Half} : tooLong t p = true ↔ t.maxlen.toNat < p.toNat * 256 := by
  simp [tooLong, Nat.shiftLeft_eq]

section
variable {c : ConfigRegs} {r : PilotRun} {p u : Half}

theorem isTerminal_iff : isTerminal c r p = true ↔ c.longk.toNat * r.sum.toNat < p.toNat * r.cnt.toNat * 16 :=
  decide_eq_true_iff

theorem inTolerance_iff : inTolerance c r p = true ↔
    ((p.toNat * r.cnt.toNat : Int) - r.sum.toNat).natAbs * 16 ≤ c.drift.toNat * r.sum.toNat := by
  rw [inTolerance, decide_eq_true_iff, absDiff_eq_natAbs, Int.natCast_mul]

/-- The terminal test of a run whose mean is the whole number `u` (40_calibrator.md R124). -/
theorem isTerminal_iff_of_mean (hcnt : 0 < r.cnt.toNat) (hmean : r.sum.toNat = r.cnt.toNat * u.toNat) :
    isTerminal c r p = true ↔ c.longk.toNat * u.toNat < 16 * p.toNat := by
  have hleft : c.longk.toNat * (r.cnt.toNat * u.toNat) = r.cnt.toNat * (c.longk.toNat * u.toNat) := Nat.mul_left_comm ..
  have hright : p.toNat * r.cnt.toNat * 16 = r.cnt.toNat * (16 * p.toNat) := by ring
  rw [isTerminal_iff, hmean, hleft, hright, Nat.mul_lt_mul_left hcnt]

/-- The tolerance test of a run whose mean is the whole number `u` (40_calibrator.md R123). -/
theorem inTolerance_iff_of_mean (hcnt : 0 < r.cnt.toNat) (hmean : r.sum.toNat = r.cnt.toNat * u.toNat) :
    inTolerance c r p = true ↔ ((p.toNat : Int) - u.toNat).natAbs * 16 ≤ c.drift.toNat * u.toNat := by
  have hdiff : (p.toNat * r.cnt.toNat : Int) - (r.cnt.toNat * u.toNat : Nat) = r.cnt.toNat * (p.toNat - u.toNat) := by
    push_cast
    ring
  rw [inTolerance_iff, hmean, hdiff, Int.natAbs_mul, Int.natAbs_natCast, Nat.mul_left_comm c.drift.toNat, Nat.mul_assoc,
    Nat.mul_le_mul_left_iff hcnt]

end

/-! ## PERIOD in the pilot states -/

section
variable {s : State} {p : Half}

/-- A counted PERIOD runs the rule of its control state (46_commands.md R271, R275). -/
theorem exec_period_of_ready (hready : s.ready = true) (hp : p ≠ 0) :
    exec (.period p) s = periodByState p s.ses.pos s.countPeriod := by
  rw [exec, execPeriod, if_neg (by simp [hready]), if_neg hp]

theorem exec_findPilot (hst : s.st = .tFindPilot) (hp : p ≠ 0) :
    exec (.period p) s = .next (findPilot p s.countPeriod) := by
  rw [exec_period_of_ready (State.ready_of_st hst rfl) hp, periodByState, State.countPeriod_st, hst]

theorem exec_pilotSync1 (hst : s.st = .tPilotFound) (hp : p ≠ 0) :
    exec (.period p) s = .next (pilotSync1 p s.ses.pos s.countPeriod) := by
  rw [exec_period_of_ready (State.ready_of_st hst rfl) hp, periodByState, State.countPeriod_st, hst]

theorem exec_pilotSync0 (hst : s.st = .tPilotFound2) (hp : p ≠ 0) :
    exec (.period p) s = .next (pilotSync0 p s.ses.pos s.countPeriod) := by
  rw [exec_period_of_ready (State.ready_of_st hst rfl) hp, periodByState, State.countPeriod_st, hst]

theorem findPilot_seed (hcnt : s.ses.pilot.cnt = 0) : findPilot p s = pilotSeed p s := if_pos hcnt

theorem findPilot_calibrate (hcnt : s.ses.pilot.cnt ≠ 0) (hterm : isTerminal s.cfg s.ses.pilot p = true)
    (hmin : s.cfg.pilotMin.toNat ≤ s.ses.pilot.cnt.toNat) : findPilot p s = pilotCalibrate s := by
  rw [findPilot, if_neg hcnt, if_pos (by simp [hterm, hmin])]

theorem findPilot_accumulate (hcnt : s.ses.pilot.cnt ≠ 0)
    (hterm : ¬(isTerminal s.cfg s.ses.pilot p = true ∧ s.cfg.pilotMin.toNat ≤ s.ses.pilot.cnt.toNat))
    (htol : inTolerance s.cfg s.ses.pilot p = true) : findPilot p s = pilotAccumulate p s := by
  rw [findPilot, if_neg hcnt, if_neg (by simpa using hterm), if_pos htol]

theorem findPilot_restart (hcnt : s.ses.pilot.cnt ≠ 0)
    (hterm : ¬(isTerminal s.cfg s.ses.pilot p = true ∧ s.cfg.pilotMin.toNat ≤ s.ses.pilot.cnt.toNat))
    (htol : ¬inTolerance s.cfg s.ses.pilot p = true) : findPilot p s = pilotSeed p s := by
  rw [findPilot, if_neg hcnt, if_neg (by simpa using hterm), if_neg htol]

/-- The accepted terminal, with the shifts of 40_calibrator.md R126 read as products and quotients. -/
theorem pilotCalibrate_eq {unit : BitVec 24} (hunit : pilotUnit s.ses.pilot = unit) :
    pilotCalibrate s = { s with
      st := .tPilotFound
      ses.thr := ⟨unit, BitVec.ofNat 32 (unit.toNat * s.cfg.coeff.toNat / 16),
        BitVec.ofNat 32 (unit.toNat * s.cfg.maxk.toNat / 16), true⟩
      evt := s.evt ||| 0x010 } := by
  simp only [pilotCalibrate, hunit, tapeThresholds, Nat.shiftRight_eq_div_pow]
  rfl

theorem pilotUnit_eq (r : PilotRun) : pilotUnit r = BitVec.ofNat 24 (r.sum.toNat * 256 / r.cnt.toNat) := by
  rw [pilotUnit, Nat.shiftLeft_eq]

end

/-- Settles O29: the four branches of 40_calibrator.md R121, in its order. -/
theorem pilotPeriod : Obligations.PilotPeriod := by
  intro s p hst hp s1 sum cnt unit
  rw [exec_findPilot hst hp]
  refine congrArg _ ?_
  by_cases hcnt : cnt = 0
  · rw [if_pos hcnt, findPilot_seed (s := s.countPeriod) (BitVec.eq_of_toNat_eq hcnt)]
    rfl
  rw [if_neg hcnt]
  have hne : s.countPeriod.ses.pilot.cnt ≠ 0 := fun h0 => hcnt (congrArg BitVec.toNat h0)
  have hiff : isTerminal s.cfg s.ses.pilot p = true ∧ s.cfg.pilotMin.toNat ≤ cnt ↔
      s.cfg.longk.toNat * sum < p.toNat * cnt * 16 ∧ s.cfg.pilotMin.toNat ≤ cnt := and_congr_left' isTerminal_iff
  by_cases hterm : s.cfg.longk.toNat * sum < p.toNat * cnt * 16 ∧ s.cfg.pilotMin.toNat ≤ cnt
  · obtain ⟨hlong, hmin⟩ := hterm
    rw [if_pos ⟨hlong, hmin⟩, findPilot_calibrate hne (isTerminal_iff.2 hlong) hmin,
      pilotCalibrate_eq (pilotUnit_eq s.countPeriod.ses.pilot)]
    rfl
  rw [if_neg hterm]
  by_cases htol : ((p.toNat * cnt : Int) - sum).natAbs * 16 ≤ s.cfg.drift.toNat * sum
  · rw [if_pos htol, findPilot_accumulate hne (mt hiff.1 hterm) (inTolerance_iff.2 htol), pilotAccumulate]
    exact if_congr BitVec.toNat_inj.symm rfl rfl
  · rw [if_neg htol, findPilot_restart hne (mt hiff.1 hterm) (mt inTolerance_iff.1 htol)]
    rfl

/-- Settles O31: the tests of 40_calibrator.md R130 and R131, one after the other. -/
theorem pilotTail : Obligations.PilotTail := by
  intro s p hp s1
  constructor
  · intro hst
    rw [exec_pilotSync1 hst hp, pilotSync1]
    simp only [Bool.not_eq_true', isOne_eq_false_iff, tooLong_iff]
    rfl
  · intro hst
    have hsync : (!syncOk s.ses.thr p) = true ↔ s.ses.thr.cutoff.toNat ≤ p.toNat * 256 := by
      rw [Bool.not_eq_true', ← Bool.not_eq_true, syncOk_iff, Nat.not_lt]
    rw [exec_pilotSync0 hst hp, pilotSync0]
    exact congrArg _ (if_congr hsync rfl rfl)

/-! ## A pilot of equal periods -/

/-- The run of `n` periods of length `u`: `CNT` stops at 65535 and `SUM` with it (40_calibrator.md R123). -/
def uniformRun (u : Half) (n : Nat) : PilotRun where
  sum := BitVec.ofNat 32 (min n 65535 * u.toNat)
  cnt := BitVec.ofNat 16 (min n 65535)

section
variable {s : State} {u t : Half} {n : Nat}

theorem uniformRun_cnt_toNat : (uniformRun u n).cnt.toNat = min n 65535 :=
  Nat.mod_eq_of_lt (by omega)

theorem uniformRun_sum_toNat : (uniformRun u n).sum.toNat = min n 65535 * u.toNat := by
  have hle : min n 65535 * u.toNat ≤ 65535 * 65535 :=
    Nat.mul_le_mul (Nat.min_le_right ..) (Nat.le_of_lt_succ u.isLt)
  exact Nat.mod_eq_of_lt (by omega)

theorem uniformRun_cnt_pos (hn : 1 ≤ n) : 0 < (uniformRun u n).cnt.toNat := by
  rw [uniformRun_cnt_toNat]
  omega

theorem uniformRun_cnt_ne_zero (hn : 1 ≤ n) : (uniformRun u n).cnt ≠ 0 := fun h0 =>
  (uniformRun_cnt_pos hn).ne' (congrArg BitVec.toNat h0)

/-- The mean of a run of equal periods is their length. -/
theorem uniformRun_mean : (uniformRun u n).sum.toNat = (uniformRun u n).cnt.toNat * u.toNat := by
  rw [uniformRun_sum_toNat, uniformRun_cnt_toNat]

/-- A count reaches `PILOT_MIN`, a half, exactly if the stopped `CNT` does. -/
theorem pilotMin_le_uniformRun_cnt (m : Half) : m.toNat ≤ (uniformRun u n).cnt.toNat ↔ m.toNat ≤ n := by
  have hlt := m.isLt
  rw [uniformRun_cnt_toNat]
  omega

/-- `UNIT` of a pilot of equal periods is exact (40_calibrator.md R132 (c)). -/
theorem pilotUnit_uniformRun (hn : 1 ≤ n) : pilotUnit (uniformRun u n) = BitVec.ofNat 24 (256 * u.toNat) := by
  rw [pilotUnit_eq, uniformRun_mean, Nat.mul_assoc, Nat.mul_div_cancel_left _ (uniformRun_cnt_pos hn), Nat.mul_comm]

theorem toNat_ofNat_unit (u : Half) : (BitVec.ofNat 24 (256 * u.toNat)).toNat = 256 * u.toNat := by
  have hlt := u.isLt
  exact Nat.mod_eq_of_lt (by omega)

theorem pilotSeed_uniformRun : pilotSeed u s = { s with ses.pilot := uniformRun u 1 } := by
  have hsum : BitVec.ofNat 32 (1 * u.toNat) = u.zeroExtend 32 := by rw [Nat.one_mul, BitVec.ofNat_toNat]
  exact congrArg (fun x => { s with ses.pilot := ⟨x, 1⟩ }) hsum.symm

theorem pilotAccumulate_uniformRun (hrun : s.ses.pilot = uniformRun u n) :
    pilotAccumulate u s = { s with ses.pilot := uniformRun u (n + 1) } := by
  have hfull : s.ses.pilot.cnt = BitVec.allOnes 16 ↔ 65535 ≤ n := by
    rw [hrun, ← BitVec.toNat_inj, uniformRun_cnt_toNat]
    exact min_eq_right_iff
  rw [pilotAccumulate]
  by_cases hn : 65535 ≤ n
  · have hstop : uniformRun u (n + 1) = s.ses.pilot := by
      rw [hrun, uniformRun, uniformRun, Nat.min_eq_right hn, Nat.min_eq_right (Nat.le_succ_of_le hn)]
    rw [if_pos (hfull.2 hn), hstop]
  · have hsum : s.ses.pilot.sum + u.zeroExtend 32 = (uniformRun u (n + 1)).sum := by
      rw [hrun, uniformRun, uniformRun, Nat.min_eq_left (by omega), Nat.min_eq_left (by omega), Nat.add_mul, Nat.one_mul,
        BitVec.ofNat_add, BitVec.ofNat_toNat]
    have hcnt : s.ses.pilot.cnt + 1 = (uniformRun u (n + 1)).cnt := by
      rw [hrun, uniformRun, uniformRun, Nat.min_eq_left (by omega), Nat.min_eq_left (by omega), BitVec.ofNat_add]
      rfl
    rw [if_neg (mt hfull.1 hn), hsum, hcnt]

/-- One more period of a pilot of equal periods is no terminal and within the tolerance. -/
theorem findPilot_uniform (hrun : s.ses.pilot = uniformRun u n) (hk : 16 ≤ s.cfg.longk.toNat) :
    findPilot u s = { s with ses.pilot := uniformRun u (n + 1) } := by
  cases n with
  | zero =>
    rw [findPilot_seed (by rw [hrun]; rfl), pilotSeed_uniformRun]
  | succ n =>
    have hpos := uniformRun_cnt_pos (u := u) (Nat.le_add_left 1 n)
    have hterm : ¬isTerminal s.cfg s.ses.pilot u = true := by
      rw [hrun, isTerminal_iff_of_mean hpos uniformRun_mean, Nat.not_lt]
      exact Nat.mul_le_mul_right _ hk
    have htol : inTolerance s.cfg s.ses.pilot u = true := by
      rw [hrun, inTolerance_iff_of_mean hpos uniformRun_mean]
      simp
    rw [findPilot_accumulate (by rw [hrun]; exact uniformRun_cnt_ne_zero (Nat.le_add_left 1 n)) (fun h => hterm h.1) htol,
      pilotAccumulate_uniformRun hrun]

/-- The terminal of a pilot of equal periods that is long enough. -/
theorem findPilot_terminal (hrun : s.ses.pilot = uniformRun u n) (hn : 1 ≤ n) (hmin : s.cfg.pilotMin.toNat ≤ n)
    (ht : s.cfg.longk.toNat * u.toNat < 16 * t.toNat) : findPilot t s = pilotCalibrate s := by
  apply findPilot_calibrate
  · rw [hrun]
    exact uniformRun_cnt_ne_zero hn
  · rw [hrun]
    exact (isTerminal_iff_of_mean (uniformRun_cnt_pos hn) uniformRun_mean).2 ht
  · rw [hrun]
    exact (pilotMin_le_uniformRun_cnt _).2 hmin

/-- A terminal that comes too early restarts the run: with `16 + DRIFT <= LONGK` it is not within the tolerance. -/
theorem findPilot_early (hrun : s.ses.pilot = uniformRun u n) (hmin : n < s.cfg.pilotMin.toNat)
    (hk : 16 + s.cfg.drift.toNat ≤ s.cfg.longk.toNat) (ht : s.cfg.longk.toNat * u.toNat < 16 * t.toNat) :
    findPilot t s = pilotSeed t s := by
  rcases Nat.eq_zero_or_pos n with rfl | hn
  · exact findPilot_seed (by rw [hrun]; rfl)
  apply findPilot_restart
  · rw [hrun]
    exact uniformRun_cnt_ne_zero hn
  · rw [hrun, pilotMin_le_uniformRun_cnt]
    exact fun h => Nat.not_le.2 hmin h.2
  · rw [hrun, inTolerance_iff_of_mean (uniformRun_cnt_pos hn) uniformRun_mean]
    have hprod := Nat.mul_le_mul_right u.toNat hk
    rw [Nat.add_mul] at hprod
    omega

/-- The state `s` after `k` counted periods that changed nothing but the run. -/
def State.withRun (s : State) (k : Nat) (r : PilotRun) : State :=
  { s with ses.pos := s.ses.pos + BitVec.ofNat 32 k, ses.pilot := r }

theorem State.withRun_zero (hrun : s.ses.pilot = ⟨0, 0⟩) : s.withRun 0 (uniformRun u 0) = s := by
  have hempty : uniformRun u 0 = s.ses.pilot := by rw [hrun, uniformRun, Nat.zero_min, Nat.zero_mul]; rfl
  rw [State.withRun, hempty, BitVec.add_zero]

theorem State.withRun_countPeriod (s : State) (k : Nat) (r : PilotRun) : (s.withRun k r).countPeriod = s.withRun (k + 1) r := by
  have hpos : s.ses.pos + BitVec.ofNat 32 k + 1 = s.ses.pos + BitVec.ofNat 32 (k + 1) := by
    rw [BitVec.ofNat_add, ← BitVec.add_assoc]
    rfl
  rw [State.countPeriod, State.withRun, hpos]
  rfl

theorem exec_withRun (hst : s.st = .tFindPilot) (hu : u ≠ 0) (k : Nat) (r : PilotRun) :
    exec (.period u) (s.withRun k r) = .next (findPilot u (s.withRun (k + 1) r)) := by
  rw [exec_findPilot (s := s.withRun k r) hst hu, State.withRun_countPeriod]

theorem execPeriods_uniform (hst : s.st = .tFindPilot) (hrun : s.ses.pilot = ⟨0, 0⟩) (hu : u ≠ 0)
    (hk : 16 ≤ s.cfg.longk.toNat) (n : Nat) :
    execPeriods (List.replicate n u) s = .next (s.withRun n (uniformRun u n)) := by
  induction n with
  | zero => exact congrArg _ (State.withRun_zero hrun).symm
  | succ n ih =>
    have hnext := exec_withRun hst hu n (uniformRun u n)
    rw [findPilot_uniform (s := s.withRun (n + 1) (uniformRun u n)) rfl hk] at hnext
    rw [List.replicate_succ', execPeriods_append ih, execPeriods_cons hnext, execPeriods]
    rfl

end

/-- Settles O30: the equal periods by induction on their number, then the terminal, accepted or too early. -/
theorem uniformPilot : Obligations.UniformPilot := by
  intro s u t n hst hrun hu hk ht
  have htne : t ≠ 0 := by
    rintro rfl
    exact Nat.not_lt_zero _ ht
  have hpilot := execPeriods_uniform hst hrun hu (Nat.le_of_add_right_le hk) n
  have hlast : execPeriods (List.replicate n u ++ [t]) s = .next (findPilot t (s.withRun (n + 1) (uniformRun u n))) := by
    rw [execPeriods_append hpilot, execPeriods_cons (exec_withRun hst htne n (uniformRun u n)), execPeriods]
  constructor
  · intro hn hmin
    rw [hlast, findPilot_terminal (s := s.withRun (n + 1) (uniformRun u n)) rfl hn hmin ht,
      pilotCalibrate_eq (s := s.withRun (n + 1) (uniformRun u n)) (pilotUnit_uniformRun hn), toNat_ofNat_unit]
    rfl
  · intro hmin
    rw [hlast, findPilot_early (s := s.withRun (n + 1) (uniformRun u n)) rfl hmin hk ht]
    rfl

end Sys2Proof.Machine

namespace Sys2Proof.Machine

/-! SUPPORT and certificates: the synchronization markers (41_marker.md). First the tape marker in its strict form, its seek and
its trailer, then the disk window: what it matches, what a match does, and the exact marker of R155 read through. -/

/-! ## The strict tape marker, phase by phase -/

theorem syncOk_eq_false_iff {t : Thresholds} {p : Half} : syncOk t p = false ↔ t.cutoff.toNat ≤ p.toNat * 256 := by
  rw [← Bool.not_eq_true, syncOk_iff, Nat.not_lt]

theorem satInc_of_ne_max {v : BitVec 8} (hv : v ≠ 255) : satInc v = v + 1 := if_neg hv

/-- A saturating increment on numbers (00_scope.md R11). -/
theorem satInc_eq_ofNat {w : Nat} (v : BitVec w) : satInc v = BitVec.ofNat w (min (v.toNat + 1) (2 ^ w - 1)) := by
  by_cases hv : v = BitVec.allOnes w
  · have hmin : min (v.toNat + 1) (2 ^ w - 1) = v.toNat := by
      rw [hv, BitVec.toNat_allOnes]
      omega
    rw [hmin, BitVec.ofNat_toNat, BitVec.setWidth_eq, satInc, if_pos hv, hv]
  · have hlt := v.isLt
    have hne : v.toNat ≠ 2 ^ w - 1 := fun h => hv (BitVec.eq_of_toNat_eq (h.trans BitVec.toNat_allOnes.symm))
    have hinc : (satInc v).toNat = v.toNat + 1 := satInc_toNat v (by omega)
    rw [Nat.min_eq_left (by omega), ← hinc, BitVec.ofNat_toNat, BitVec.setWidth_eq]

section
variable {s : State} {p : Half} {idx : Word} {done : State → State}

theorem exec_bodyMarker (hst : s.st = .tBodyMarker) (hp : p ≠ 0) :
    exec (.period p) s = .next (strictMarker bodyMarkerDone p s.ses.pos s.countPeriod) := by
  rw [exec_period_of_ready (State.ready_of_st hst rfl) hp, periodByState, State.countPeriod_st, hst]

theorem strictMarker_lead (hms : s.ses.mark.ms = .lead) : strictMarker done p idx s =
    if s.ses.thr.cutoff.toNat < p.toNat * 256 then s.raiseFatal .mlead idx
    else { s with ses.mark.mcnt := 1, ses.mark.ms := .body } := by
  rw [strictMarker, hms]
  exact if_congr isOne_iff rfl rfl

/-- The eighth zero period is the one that finds seven counted (41_marker.md R139). -/
theorem strictMarker_body (hms : s.ses.mark.ms = .body) (hcnt : s.ses.mark.mcnt ≠ 255) : strictMarker done p idx s =
    if s.ses.thr.cutoff.toNat < p.toNat * 256 then s.raiseFatal .mbody idx
    else { s with
      ses.mark.mcnt := s.ses.mark.mcnt + 1
      ses.mark.ms := if s.ses.mark.mcnt = 7 then .final else .body } := by
  have hseven : (s.ses.mark.mcnt + 1).toNat = Config.markN ↔ s.ses.mark.mcnt = 7 := by
    rw [Config.markN]
    bv_omega
  rw [strictMarker, hms]
  simp only [strictBody, satInc_of_ne_max hcnt, hseven, isOne_iff]

theorem strictMarker_final (hms : s.ses.mark.ms = .final) : strictMarker done p idx s =
    if s.ses.thr.cutoff.toNat < p.toNat * 256 then { s with ses.mark.ms := .sync1 } else s.raiseFatal .mfinal idx := by
  rw [strictMarker, hms]
  simp only [strictFinal, Bool.not_eq_true', ← Bool.not_eq_true, isOne_iff, ite_not]

theorem strictMarker_sync1 (hms : s.ses.mark.ms = .sync1) : strictMarker done p idx s =
    if s.ses.thr.cutoff.toNat < p.toNat * 256 then
      if s.ses.thr.maxlen.toNat < p.toNat * 256 then s.raiseFatal .bitlong idx else { s with ses.mark.ms := .sync0 }
    else s.raiseFatal .msync idx := by
  rw [strictMarker, hms]
  simp only [strictSync1, Bool.not_eq_true', ← Bool.not_eq_true, isOne_iff, tooLong_iff, ite_not]

theorem strictMarker_sync0 (hms : s.ses.mark.ms = .sync0) : strictMarker done p idx s =
    if s.ses.thr.cutoff.toNat ≤ p.toNat * 256 then s.raiseFatal .msync idx else done s := by
  rw [strictMarker, hms]
  simp only [strictSync0, Bool.not_eq_true', syncOk_eq_false_iff]

/-- PERIOD in either state of the strict marker: they differ in the exit only (41_marker.md R137, R143). -/
theorem exec_strictMarker (hst : s.st = .tHdrMarker ∨ s.st = .tBodyMarker) (hp : p ≠ 0) :
    exec (.period p) s =
      .next (strictMarker (if s.st = .tHdrMarker then hdrMarkerDone else bodyMarkerDone) p s.ses.pos s.countPeriod) := by
  rcases hst with hst | hst
  · rw [exec_hdrMarker hst hp, if_pos hst]
  · rw [exec_bodyMarker hst hp, if_neg (by simp [hst])]

end

/-- Settles O32: the rule of each phase, with the exit of each of the two states. -/
theorem strictMarkerPeriod : Obligations.StrictMarkerPeriod := by
  intro s p hst hp hcnt s1 one
  rw [exec_strictMarker hst hp]
  refine congrArg _ ?_
  cases hms : s.ses.mark.ms with
  | lead => exact strictMarker_lead (s := s.countPeriod) hms
  | body => exact strictMarker_body (s := s.countPeriod) hms hcnt
  | final => exact strictMarker_final (s := s.countPeriod) hms
  | sync1 => exact strictMarker_sync1 (s := s.countPeriod) hms
  | sync0 =>
    rw [strictMarker_sync0 (s := s.countPeriod) hms]
    refine if_congr Iff.rfl rfl ?_
    split <;> rfl

/-! ## The seek and the trailer -/

section
variable {s : State} {p : Half}

theorem exec_seek (hst : s.st = .h7Seek) (hp : p ≠ 0) : exec (.period p) s = seekMarker p s.countPeriod := by
  rw [exec_period_of_ready (State.ready_of_st hst rfl) hp, periodByState, State.countPeriod_st, hst]

theorem exec_trailer (hst : s.st = .tEndTrailer) (hp : p ≠ 0) : exec (.period p) s = trailerMarker p s.countPeriod := by
  rw [exec_period_of_ready (State.ready_of_st hst rfl) hp, periodByState, State.countPeriod_st, hst]

theorem seekMarker_lead (hms : s.ses.mark.ms = .lead) : seekMarker p s = .next
    (if s.ses.thr.cutoff.toNat < p.toNat * 256 then
      if 8 ≤ s.ses.mark.zrun.toNat then { s with ses.mark.ms := .sync1 } else { s with ses.mark.zrun := 0 }
    else { s with ses.mark.zrun := BitVec.ofNat 8 (min (s.ses.mark.zrun.toNat + 1) 255) }) := by
  rw [seekMarker, hms]
  simp only [seekLead, satInc_eq_ofNat, Bool.not_eq_true', ← Bool.not_eq_true, isOne_iff, ite_not]
  rfl

theorem seekMarker_sync1 (hms : s.ses.mark.ms = .sync1) : seekMarker p s = .next
    (if s.ses.thr.cutoff.toNat < p.toNat * 256 ∧ p.toNat * 256 ≤ s.ses.thr.maxlen.toNat then
      { s with ses.mark.ms := .sync0 }
    else { s with
      ses.mark.ms := .lead
      ses.mark.zrun := if s.ses.thr.cutoff.toNat < p.toNat * 256 then 0 else 1 }) := by
  rw [seekMarker, hms]
  simp only [seekSync1, Bool.and_eq_true, Bool.not_eq_true', isOne_iff, tooLong_eq_false_iff]

theorem seekMarker_sync0 (hms : s.ses.mark.ms = .sync0) : seekMarker p s = .next
    (if p.toNat * 256 < s.ses.thr.cutoff.toNat then seekDone s
    else { s with ses.mark.ms := .lead, ses.mark.zrun := 0 }) := by
  rw [seekMarker, hms]
  simp only [seekSync0, syncOk_iff]

theorem trailerMarker_lead (hms : s.ses.mark.ms = .lead) : trailerMarker p s = .next
    (if s.ses.thr.cutoff.toNat < p.toNat * 256 then { s with ses.mark.ms := .sync1 }
    else { s with ses.mark.mcnt := BitVec.ofNat 8 (min (s.ses.mark.mcnt.toNat + 1) 255) }) := by
  rw [trailerMarker, hms]
  simp only [trailerLead, satInc_eq_ofNat, isOne_iff]
  rfl

theorem trailerMarker_sync1 (hms : s.ses.mark.ms = .sync1) :
    trailerMarker p s = .next { s with ses.mark.ms := .sync0 } := by
  rw [trailerMarker, hms]

theorem trailerMarker_sync0 (hms : s.ses.mark.ms = .sync0) : trailerMarker p s = .next (trailerDone s) := by
  rw [trailerMarker, hms]

end

/-- Settles O34: the three phases that the seek and the trailer use. -/
theorem seekAndTrailerPeriod : Obligations.SeekAndTrailerPeriod := by
  intro s p hp hbody hfinal s1 one
  constructor
  · intro hst
    rw [exec_seek hst hp]
    cases hms : s.ses.mark.ms with
    | lead => exact seekMarker_lead (s := s.countPeriod) hms
    | sync1 => exact seekMarker_sync1 (s := s.countPeriod) hms
    | sync0 => exact seekMarker_sync0 (s := s.countPeriod) hms
    | body => exact absurd hms hbody
    | final => exact absurd hms hfinal
  · intro hst
    rw [exec_trailer hst hp]
    cases hms : s.ses.mark.ms with
    | lead => exact trailerMarker_lead (s := s.countPeriod) hms
    | sync1 => exact trailerMarker_sync1 (s := s.countPeriod) hms
    | sync0 => exact trailerMarker_sync0 (s := s.countPeriod) hms
    | body => exact absurd hms hbody
    | final => exact absurd hms hfinal

/-! ## What the disk window matches -/

section
variable {x n : Nat}

theorem classify_eq_short_iff : classify x n = some .short ↔ 3 * n ≤ x ∧ x < 5 * n := by
  unfold classify
  split_ifs <;> simp <;> omega

theorem classify_eq_medium_iff : classify x n = some .medium ↔ 5 * n ≤ x ∧ x < 7 * n := by
  unfold classify
  split_ifs <;> simp <;> omega

theorem classify_eq_long_iff : classify x n = some .long ↔ 7 * n ≤ x ∧ x ≤ 9 * n := by
  unfold classify
  split_ifs <;> simp <;> omega

end

/-- The interval that the pattern has at a place, by the place within its sub-pattern (41_marker.md R149). -/
def patternAt (k : Nat) : Interval :=
  match k % 5 with
  | 1 | 3 => .medium
  | 4 => .short
  | _ => .long

theorem pattern_eq_ofFn : pattern = List.ofFn fun i : Fin 15 => patternAt i := by decide

section
variable {k : Nat}

theorem patternAt_long (hk : k % 5 = 0 ∨ k % 5 = 2) : patternAt k = .long := by
  rcases hk with hk | hk <;> simp [patternAt, hk]

theorem patternAt_medium (hk : k % 5 = 1 ∨ k % 5 = 3) : patternAt k = .medium := by
  rcases hk with hk | hk <;> simp [patternAt, hk]

theorem patternAt_short (hk : k % 5 = 4) : patternAt k = .short := by
  simp [patternAt, hk]

end

/-- A number lies in the class of its place exactly by the bounds of 41_marker.md R148 for that place. -/
theorem classify_eq_patternAt_iff {x n k : Nat} : classify x n = some (patternAt k) ↔
    3 * n ≤ x ∧ x ≤ 9 * n ∧ (k % 5 = 0 ∨ k % 5 = 2 → 7 * n ≤ x)
      ∧ (k % 5 = 1 ∨ k % 5 = 3 → 5 * n ≤ x ∧ x < 7 * n) ∧ (k % 5 = 4 → x < 5 * n) := by
  have hplace : (k % 5 = 0 ∨ k % 5 = 2) ∨ (k % 5 = 1 ∨ k % 5 = 3) ∨ k % 5 = 4 := by omega
  rcases hplace with hlong | hmedium | hshort
  · rw [patternAt_long hlong, classify_eq_long_iff]
    omega
  · rw [patternAt_medium hmedium, classify_eq_medium_iff]
    omega
  · rw [patternAt_short hshort, classify_eq_short_iff]
    omega

theorem windowMatches_iff {v : Window} :
    windowMatches v = true ↔ v.wcnt = 15 ∧ ∀ i : Fin 15, bucket v.w[i].toNat v.wsum.toNat = some (patternAt i) := by
  have hw : v.w.toList = List.ofFn fun i : Fin 15 => v.w[i] := by
    refine List.ext_getElem (by simp) fun i hi _ => ?_
    rw [Vector.getElem_toList, List.getElem_ofFn]
    rfl
  rw [windowMatches, Bool.and_eq_true, beq_iff_eq, beq_iff_eq, hw, pattern_eq_ofFn, List.map_ofFn, List.map_ofFn,
    List.ofFn_inj, funext_iff]
  rfl

/-- Settles O43: entry by entry, the class of the pattern there. -/
theorem windowMatch : Obligations.WindowMatch := fun _ =>
  windowMatches_iff.trans (and_congr_right' (forall_congr' fun _ => classify_eq_patternAt_iff))

/-! ## PERIOD while the disk marker is sought -/

section
variable {s : State} {p : Half} {idx : Word}

theorem exec_findHeader (hst : s.st = .dFindHdr) (hp : p ≠ 0) : exec (.period p) s = .next (findHeader p s.countPeriod) := by
  rw [exec_period_of_ready (State.ready_of_st hst rfl) hp, periodByState, State.countPeriod_st, hst]

theorem exec_findData (hst : s.st = .dFindData) (hp : p ≠ 0) :
    exec (.period p) s = .next (findData p s.ses.pos s.countPeriod) := by
  rw [exec_period_of_ready (State.ready_of_st hst rfl) hp, periodByState, State.countPeriod_st, hst]

/-- A match, with the shifts of 41_marker.md R150 read as products and quotients. -/
theorem windowMatched_eq {unit : BitVec 24} (hunit : windowUnit s.ses.win.wsum = unit) (next : Ctl) :
    windowMatched next s = { s with
      st := next
      ses.thr := ⟨unit, BitVec.ofNat 32 (unit.toNat * 5 / 4), BitVec.ofNat 32 (unit.toNat * 9 / 4), true⟩
      ck := 0xCDB4
      ses.rawb := ⟨1, 2⟩
      ses.byteidx := 0
      ses.win := ⟨Vector.replicate 15 0, 0, 0⟩
      evt := s.evt ||| 0x010 } := by
  simp only [windowMatched, hunit, diskThresholds, Nat.shiftRight_eq_div_pow]
  rfl

theorem windowUnit_eq (n : BitVec 20) : windowUnit n = BitVec.ofNat 24 (n.toNat * 256 / 24) := by
  rw [windowUnit, Nat.shiftLeft_eq]

theorem findHeader_match (h : windowMatches (s.ses.win.shift p) = true) :
    findHeader p s = windowMatched .dReadHdr { s with ses.win := s.ses.win.shift p } := if_pos h

theorem findHeader_noMatch (h : ¬windowMatches (s.ses.win.shift p) = true) :
    findHeader p s = { s with ses.win := s.ses.win.shift p } := if_neg h

end

/-- Settles O42: the branches of 41_marker.md R147, in its order, for each of the two states. -/
theorem findMarkerPeriod : Obligations.FindMarkerPeriod := by
  intro s p hst hp win unit look s1
  have hunit : windowUnit s1.ses.win.wsum = unit := windowUnit_eq _
  have hmatched := windowMatched_eq hunit
  rcases hst with hst | hst
  · have hlook : look = s.ses.look := if_neg (by simp [hst])
    have hs1 : s1 = { s.countPeriod with ses.win := win } := by simp only [s1, hlook]; rfl
    have hno : ¬(s.st = .dFindData ∧ look = s.cfg.lookmax) := by simp [hst]
    rw [exec_findHeader hst hp, if_pos hst, if_neg hno]
    refine congrArg _ (if_congr Iff.rfl ?_ hs1.symm)
    exact (congrArg _ hs1.symm).trans (hmatched _)
  · have hlook : look = satInc s.ses.look := (if_pos hst).trans (satInc_eq_ofNat s.ses.look).symm
    have hs1 : s1 = { s.countPeriod with ses.look := satInc s.ses.look, ses.win := win } := by simp only [s1, hlook]; rfl
    have hiff : satInc s.ses.look = s.cfg.lookmax ↔ s.st = .dFindData ∧ look = s.cfg.lookmax := by simp [hst, hlook]
    have hdata : ¬s.st = .dFindHdr := by simp [hst]
    rw [exec_findData hst hp, if_neg hdata]
    refine congrArg _ (if_congr Iff.rfl ?_ (if_congr hiff ?_ hs1.symm))
    · exact (congrArg _ hs1.symm).trans (hmatched _)
    · rw [hs1]
      rfl

/-! ## Periods into the window -/

/-- The window after a stream of periods. -/
def Window.feed (v : Window) (ps : List Half) : Window := ps.foldl Window.shift v

theorem Window.feed_cons (v : Window) (p : Half) (ps : List Half) : v.feed (p :: ps) = (v.shift p).feed ps := List.foldl_cons ..

theorem Window.feed_concat (v : Window) (ps : List Half) (p : Half) : v.feed (ps ++ [p]) = (v.feed ps).shift p :=
  List.foldl_concat ..

/-- The periods come in behind the entries, and as many of the oldest go out. -/
theorem Window.feed_toList (v : Window) (ps : List Half) :
    (v.feed ps).w.toList = (v.w.toList ++ ps).drop ps.length := by
  induction ps generalizing v with
  | nil => simp [Window.feed]
  | cons p ps ih =>
    rw [Window.feed_cons, ih, Window.shift_toList, List.append_assoc, List.singleton_append, v.toList_eq, List.tail_cons,
      List.cons_append, List.length_cons, List.drop_succ_cons]

theorem Window.shift_wcnt_toNat {v : Window} (h : v.wcnt.toNat < 15) (p : Half) :
    (v.shift p).wcnt.toNat = v.wcnt.toNat + 1 := by
  have hne : v.wcnt ≠ 15 := fun h15 => absurd h (by rw [h15]; decide)
  rw [Window.shift, if_neg hne]
  bv_omega

theorem Window.feed_wcnt_toNat {v : Window} {ps : List Half} (h : v.wcnt.toNat + ps.length ≤ 15) :
    (v.feed ps).wcnt.toNat = v.wcnt.toNat + ps.length := by
  induction ps generalizing v with
  | nil => rfl
  | cons p ps ih =>
    rw [List.length_cons] at h ⊢
    have hshift := Window.shift_wcnt_toNat (v := v) (by omega) p
    rw [Window.feed_cons, ih (by omega), hshift]
    omega

/-- `WSUM` stays the sum of the entries (41_marker.md R155 (a)). -/
theorem Window.feed_wsum {v : Window} (hsum : v.wsum.toNat = (v.w.toList.map BitVec.toNat).sum) (ps : List Half) :
    (v.feed ps).wsum.toNat = ((v.feed ps).w.toList.map BitVec.toNat).sum := by
  induction ps generalizing v with
  | nil => exact hsum
  | cons p ps ih =>
    rw [Window.feed_cons]
    exact ih (v.shift_wsum p hsum)

/-- Fifteen periods replace every entry of the empty window. -/
theorem Window.feed_empty_toList {ps : List Half} (hlen : ps.length = 15) : (Window.empty.feed ps).w.toList = ps := by
  rw [Window.feed_toList, hlen]
  exact List.drop_left' rfl

/-- A window that is not full matches nothing (41_marker.md R147). -/
theorem windowMatches_unfilled {v : Window} (h : v.wcnt.toNat < 15) : ¬windowMatches v = true := fun hm =>
  absurd (windowMatches_iff.1 hm).1 fun h15 => absurd h (by rw [h15]; decide)

section
variable {s : State} {ps : List Half}

/-- The state `s` after counted periods that went into the window and changed nothing else. -/
def State.feedWindow (s : State) (ps : List Half) : State :=
  { s with ses.pos := s.ses.pos + BitVec.ofNat 32 ps.length, ses.win := s.ses.win.feed ps }

theorem State.feedWindow_concat (s : State) (ps : List Half) (p : Half) :
    s.feedWindow (ps ++ [p]) =
      { (s.feedWindow ps).countPeriod with ses.win := (s.feedWindow ps).countPeriod.ses.win.shift p } := by
  have hpos : s.ses.pos + BitVec.ofNat 32 (ps ++ [p]).length = s.ses.pos + BitVec.ofNat 32 ps.length + 1 := by
    rw [List.length_append, BitVec.ofNat_add, ← BitVec.add_assoc]
    rfl
  rw [State.feedWindow, hpos, Window.feed_concat]
  rfl

/-- Before the window is full, a stream of periods only fills it. -/
theorem execPeriods_unfilled (hst : s.st = .dFindHdr) (hcnt : s.ses.win.wcnt.toNat + ps.length < 15) (hne : ∀ p ∈ ps, p ≠ 0) :
    execPeriods ps s = .next (s.feedWindow ps) := by
  induction ps using List.reverseRecOn with
  | nil => exact congrArg _ (by rw [State.feedWindow]; simp [Window.feed])
  | append_singleton ps p ih =>
    rw [List.length_append, List.length_singleton] at hcnt
    have hp : p ≠ 0 := hne p (by simp)
    have hunfilled : ¬windowMatches ((s.ses.win.feed ps).shift p) = true := by
      have hfeed := Window.feed_wcnt_toNat (v := s.ses.win) (ps := ps) (by omega)
      refine windowMatches_unfilled ?_
      rw [Window.shift_wcnt_toNat (by omega), hfeed]
      omega
    have hlast := exec_findHeader (s := s.feedWindow ps) hst hp
    rw [findHeader_noMatch (s := (s.feedWindow ps).countPeriod) hunfilled, ← State.feedWindow_concat] at hlast
    rw [execPeriods_append (ih (by omega) fun q hq => hne q (by simp [hq])), execPeriods_cons hlast, execPeriods]

/-- Fifteen periods from an empty window, the last of which completes a match. -/
theorem execPeriods_match {p : Half} (hst : s.st = .dFindHdr) (hwin : s.ses.win = Window.empty) (hlen : ps.length = 14)
    (hne : ∀ q ∈ ps ++ [p], q ≠ 0) (hmatch : windowMatches (Window.empty.feed (ps ++ [p])) = true) :
    execPeriods (ps ++ [p]) s = .next (windowMatched .dReadHdr (s.feedWindow (ps ++ [p]))) := by
  have hcnt : s.ses.win.wcnt.toNat + ps.length < 15 := by rw [hwin, hlen]; decide
  have hlast := exec_findHeader (s := s.feedWindow ps) hst (hne p (by simp))
  rw [← hwin, Window.feed_concat] at hmatch
  rw [findHeader_match (s := (s.feedWindow ps).countPeriod) hmatch, ← State.feedWindow_concat] at hlast
  rw [execPeriods_append (execPeriods_unfilled hst hcnt fun q hq => hne q (by simp [hq])), execPeriods_cons hlast, execPeriods]

end

/-! ## The exact marker -/

/-- The half-cells of the five intervals of a sub-pattern, three times over. -/
theorem diskMarker_toNat {h : Half} (hle : h.toNat ≤ 16383) :
    (diskMarker h).map BitVec.toNat = pattern.map fun c => c.halfCells * h.toNat := by
  simp [diskMarker, pattern, subPattern, Interval.halfCells, List.replicate]
  omega

/-- The pattern spans 48 half-cells, which are 24 units (41_marker.md R148). -/
theorem pattern_halfCells : (pattern.map Interval.halfCells).sum = 48 := rfl

/-- An interval of so many half-cells is in its class, where the window's sum is that of the pattern (41_marker.md R155 (c)). -/
theorem bucket_halfCells (c : Interval) {n : Nat} (hn : 1 ≤ n) : bucket (c.halfCells * n) (48 * n) = some c := by
  unfold bucket
  cases c with
  | short => rw [classify_eq_short_iff, Interval.halfCells]; omega
  | medium => rw [classify_eq_medium_iff, Interval.halfCells]; omega
  | long => rw [classify_eq_long_iff, Interval.halfCells]; omega

section
variable {h : Half}

theorem diskMarker_ne_zero (hpos : 1 ≤ h.toNat) (hle : h.toNat ≤ 16383) : ∀ p ∈ diskMarker h, p ≠ 0 := by
  rintro p hp rfl
  have hmem := List.mem_map_of_mem (f := BitVec.toNat) hp
  rw [diskMarker_toNat hle] at hmem
  obtain ⟨c, _, hc⟩ := List.mem_map.1 hmem
  cases c <;> simp [Interval.halfCells] at hc <;> omega

theorem diskMarker_window_toList : (Window.empty.feed (diskMarker h)).w.toList = diskMarker h :=
  Window.feed_empty_toList rfl

theorem diskMarker_window_wsum (hle : h.toNat ≤ 16383) : (Window.empty.feed (diskMarker h)).wsum.toNat = 48 * h.toNat := by
  rw [Window.feed_wsum (by decide), diskMarker_window_toList, diskMarker_toNat hle, List.sum_map_mul_right,
    pattern_halfCells]

theorem diskMarker_window_matches (hpos : 1 ≤ h.toNat) (hle : h.toNat ≤ 16383) :
    windowMatches (Window.empty.feed (diskMarker h)) = true := by
  have hfull : (Window.empty.feed (diskMarker h)).wcnt = 15 :=
    BitVec.eq_of_toNat_eq (Window.feed_wcnt_toNat (v := Window.empty) (Nat.le_refl 15))
  have hbuckets : (diskMarker h).map (fun w => bucket w.toNat (48 * h.toNat)) = pattern.map some :=
    calc (diskMarker h).map (fun w => bucket w.toNat (48 * h.toNat))
        = ((diskMarker h).map BitVec.toNat).map (bucket · (48 * h.toNat)) := by rw [List.map_map]; rfl
      _ = pattern.map fun c => bucket (c.halfCells * h.toNat) (48 * h.toNat) := by
        rw [diskMarker_toNat hle, List.map_map]; rfl
      _ = pattern.map some := by simp only [bucket_halfCells _ hpos]
  rw [windowMatches, diskMarker_window_toList, diskMarker_window_wsum hle, hbuckets, hfull]
  simp

/-- `UNIT` of the exact marker (41_marker.md R155 (d)). -/
theorem diskMarker_unit (hle : h.toNat ≤ 16383) :
    windowUnit (Window.empty.feed (diskMarker h)).wsum = BitVec.ofNat 24 (512 * h.toNat) := by
  rw [windowUnit_eq, diskMarker_window_wsum hle]
  congr 1
  omega

end

/-- Settles O44: fourteen periods fill the window, the fifteenth completes the match, and the unit is exact. -/
theorem exactMarkerCalibrates : Obligations.ExactMarkerCalibrates := by
  intro s h hst hwin hpos hle
  have hunit : windowUnit (s.feedWindow (diskMarker h)).ses.win.wsum = BitVec.ofNat 24 (512 * h.toNat) := by
    rw [State.feedWindow, hwin]
    exact diskMarker_unit hle
  have hval : (BitVec.ofNat 24 (512 * h.toNat)).toNat = 512 * h.toNat := Nat.mod_eq_of_lt (by omega)
  have hcut : 512 * h.toNat * 5 / 4 = 640 * h.toNat := by omega
  have hmax : 512 * h.toNat * 9 / 4 = 1152 * h.toNat := by omega
  have hrun : execPeriods (diskMarker h) s = .next (windowMatched .dReadHdr (s.feedWindow (diskMarker h))) :=
    execPeriods_match (ps := (diskMarker h).dropLast) (p := 2 * h) hst hwin rfl (diskMarker_ne_zero hpos hle)
      (diskMarker_window_matches hpos hle)
  have hcount : BitVec.ofNat 32 (diskMarker h).length = 15 := rfl
  rw [hrun, windowMatched_eq hunit, hval, hcut, hmax, ← hwin, State.feedWindow, hcount]

end Sys2Proof.Machine

namespace Sys2Proof.Machine

/-! SUPPORT and certificates: from periods to bytes (42_demod.md). First the tape bit cell and a byte of eight cells read through,
then the intervals of a disk byte and the periods outside every interval class. -/

/-! ## The tape bit cell -/

/-- The byte whose bit 7 is the given bit, and no other. -/
theorem getLsbD_topBit (bit : Bool) {i : Nat} (hi : i < 8) :
    (if bit then 0x80 else 0 : Byte).getLsbD i = (decide (i = 7) && bit) := by
  cases bit <;> interval_cases i <;> rfl

/-- A bit that enters at bit 7 leaves the seven latest bits below it (42_demod.md R160). -/
theorem shiftInBit_eq (bit : Bool) (shr : Byte) : shiftInBit bit shr = (shr >>> 1) ||| (if bit then 0x80 else 0) := by
  refine BitVec.eq_of_getLsbD_eq fun i (hi : i < 8) => BitVec.getLsbD_append.trans ?_
  rw [BitVec.getLsbD_or, getLsbD_topBit bit hi]
  rcases Nat.lt_or_eq_of_le (Nat.le_of_lt_succ hi) with hlow | rfl
  · simp [hlow, hlow.ne]
  · simp

/-- The rule for an illegal period in a byte-reading tape state (42_demod.md R162; 44_framing_tape.md R211). -/
def Ctl.tapeViolation (c : Ctl) : Fatal → Word → State → State := if c.isHelp7 then help7Violation else fileViolation

section
variable {s : State} {p : Half} {idx : Word} {v : Fatal → Word → State → State} {d d' : Byte → Word → State → Res}

theorem tapeBytePeriod_data (hbph : s.ses.bits.bph = false) : tapeBytePeriod v d p idx s = .next
    (if s.ses.thr.maxlen.toNat < p.toNat * 256 then v .bitlong idx s
    else { s with
      ses.bits.shr := (s.ses.bits.shr >>> 1) ||| (if s.ses.thr.cutoff.toNat < p.toNat * 256 then 0x80 else 0)
      ses.bits.bph := true }) := by
  rw [tapeBytePeriod, hbph, if_neg Bool.false_ne_true, tapeDataPeriod_next]
  simp only [shiftInBit_eq, isOne_iff, tooLong_iff]

theorem tapeBytePeriod_sync (hbph : s.ses.bits.bph = true) : tapeBytePeriod v d p idx s =
    if s.ses.thr.cutoff.toNat ≤ p.toNat * 256 then .next (v .synclong idx s)
    else if s.ses.bits.bitcnt = 7 then d s.ses.bits.shr idx { s with ses.bits.bph := false, ses.bits.bitcnt := 0 }
    else .next { s with ses.bits.bph := false, ses.bits.bitcnt := s.ses.bits.bitcnt + 1 } := by
  have hlast : s.ses.bits.bitcnt + 1 = 8 ↔ s.ses.bits.bitcnt = 7 := by bv_omega
  rw [tapeBytePeriod, if_pos hbph]
  simp only [tapeSyncPeriod, Bool.not_eq_true', syncOk_eq_false_iff, hlast]

/-- The byte is delivered in the state before but for the tape shifter, so the byte's rule matters in such states only. -/
theorem tapeBytePeriod_congr (h : ∀ b x, d b idx { s with ses.bits := x } = d' b idx { s with ses.bits := x }) :
    tapeBytePeriod v d p idx s = tapeBytePeriod v d' p idx s := by
  cases hbph : s.ses.bits.bph with
  | false => rw [tapeBytePeriod_data hbph, tapeBytePeriod_data hbph]
  | true => rw [tapeBytePeriod_sync hbph, tapeBytePeriod_sync hbph, h]

theorem Ctl.isTapeByte_iff {c : Ctl} : c.isTapeByte = true ↔
    c = .tReadHdr ∨ c = .tReadData ∨ c = .tChecksum ∨ c = .h7ReadBhdr ∨ c = .h7ReadBody ∨ c = .h7Bcksum := by
  simp [Ctl.isTapeByte, or_assoc]

theorem ready_of_isTapeByte (hst : s.st.isTapeByte = true) : s.ready = true := by
  rcases Ctl.isTapeByte_iff.1 hst with hc | hc | hc | hc | hc | hc <;> exact State.ready_of_st hc rfl

/-- PERIOD in a byte-reading tape state: one rule, with the violation and the delivery of the state (42_demod.md R158). -/
theorem exec_tapeByte (hst : s.st.isTapeByte = true) (hp : p ≠ 0) :
    exec (.period p) s = tapeBytePeriod s.st.tapeViolation deliverTapeByte p s.ses.pos s.countPeriod := by
  rw [exec_period_of_ready (ready_of_isTapeByte hst) hp, periodByState, State.countPeriod_st]
  rcases Ctl.isTapeByte_iff.1 hst with hc | hc | hc | hc | hc | hc <;> rw [hc] <;>
    exact tapeBytePeriod_congr fun b x => by simp only [deliverTapeByte, State.countPeriod_st, hc]

end

/-- Settles O35: the data period, then the sync period, each with the violation of its state. -/
theorem tapeBitCell : Obligations.TapeBitCell := by
  intro s p hst hp s1 violation
  have hviolation (e : Fatal) : s.st.tapeViolation e s.ses.pos s.countPeriod = violation e := by
    unfold Ctl.tapeViolation
    simp only [violation]
    split <;> rfl
  rw [exec_tapeByte hst hp]
  constructor
  · intro hbph
    rw [tapeBytePeriod_data (s := s.countPeriod) hbph, hviolation]
    rfl
  · intro hbph
    rw [tapeBytePeriod_sync (s := s.countPeriod) hbph, hviolation]
    rfl

/-! ## A byte of eight cells -/

theorem execPeriods_singleton (p : Half) (s : State) : execPeriods [p] s = exec (.period p) s := by
  cases h : exec (.period p) s <;> simp [execPeriods, h]

/-- The bit cell of a bit at a unit: its data period and its sync period (30_encoding.md R113). -/
def tapeCell (u : Half) (bit : Bool) : List Half := [if bit then 2 * u else u, u]

/-- The cells of the first `n` bits of a byte. -/
def tapeCells (u : Half) (v : Byte) (n : Nat) : List Half := (List.range n).flatMap fun k => tapeCell u (v.getLsbD k)

theorem tapeCells_succ (u : Half) (v : Byte) (n : Nat) :
    tapeCells u v (n + 1) = tapeCells u v n ++ tapeCell u (v.getLsbD n) := by
  simp [tapeCells, List.range_succ]

theorem tapeByte_eq_tapeCells (u : Half) (v : Byte) : tapeByte u v = tapeCells u v 8 := rfl

/-- `SHR` after the first `n` bits of a byte: they stand at the top, above what was there (42_demod.md R160). -/
def shrAfter (shr v : Byte) (n : Nat) : Byte := (shr >>> n) ||| (v <<< (8 - n))

theorem shrAfter_zero (shr v : Byte) : shrAfter shr v 0 = shr := by
  simp [shrAfter]

/-- Eight bits leave nothing of what was there. -/
theorem shrAfter_eight (shr v : Byte) : shrAfter shr v 8 = v := by
  rw [shrAfter, BitVec.ushiftRight_eq_zero (Nat.le_refl 8), BitVec.zero_or, Nat.sub_self, BitVec.shiftLeft_zero]

theorem shrAfter_succ (shr v : Byte) {n : Nat} (hn : n < 8) :
    (shrAfter shr v n >>> 1) ||| (if v.getLsbD n then 0x80 else 0) = shrAfter shr v (n + 1) := by
  refine BitVec.eq_of_getLsbD_eq fun i hi => ?_
  simp only [shrAfter, BitVec.getLsbD_or, BitVec.getLsbD_ushiftRight, BitVec.getLsbD_shiftLeft, getLsbD_topBit _ hi]
  rcases Nat.lt_or_eq_of_le (Nat.le_of_lt_succ hi) with hlow | rfl
  · have hplace : 1 + i - (8 - n) = i - (8 - (n + 1)) := by omega
    have hroom : 1 + i < 8 - n ↔ i < 8 - (n + 1) := by omega
    have hshift : n + (1 + i) = n + 1 + i := by omega
    have hin : 1 + i < 8 := by omega
    simp [hplace, hroom, hshift, hin, hi, hlow.ne]
  · have hplace : 7 - (7 - n) = n := by omega
    have hroom : ¬7 < 7 - n := by omega
    simp [hplace, hroom]

section
variable {s : State} {p u : Half} {v shr : Byte} {bit : Bool} {cnt : BitVec 4} {k : Word} {n : Nat}

/-- The state `s` after `k` counted periods that went into the tape shifter and changed nothing else. -/
def State.shifted (s : State) (k : Word) (bits : TapeBits) : State := { s with ses.pos := s.ses.pos + k, ses.bits := bits }

theorem State.shifted_zero (s : State) : s.shifted 0 s.ses.bits = s := by
  have hpos : s.ses.pos + 0 = s.ses.pos := BitVec.add_zero _
  rw [shifted, hpos]

/-- A legal data period shifts its bit in (42_demod.md R159). -/
theorem exec_dataPeriod (hst : s.st.isTapeByte = true) (hp : p ≠ 0) (hclass : isOne s.ses.thr p = bit)
    (hlong : tooLong s.ses.thr p = false) : exec (.period p) (s.shifted k ⟨shr, cnt, false⟩) =
      .next (s.shifted (k + 1) ⟨(shr >>> 1) ||| (if bit then 0x80 else 0), cnt, true⟩) := by
  have hle : ¬s.ses.thr.maxlen.toNat < p.toNat * 256 := Nat.not_lt.2 (tooLong_eq_false_iff.1 hlong)
  have hpos : s.ses.pos + k + 1 = s.ses.pos + (k + 1) := BitVec.add_assoc ..
  rw [exec_tapeByte (s := s.shifted k ⟨shr, cnt, false⟩) hst hp, tapeBytePeriod_data rfl]
  refine congrArg _ ((if_neg hle).trans ?_)
  simp only [State.shifted, State.countPeriod, hpos, ← hclass, isOne_iff]

/-- A legal sync period counts the bit before it; the eighth completes the byte (42_demod.md R161). -/
theorem exec_syncPeriod (hst : s.st.isTapeByte = true) (hp : p ≠ 0) (hsync : syncOk s.ses.thr p = true) :
    exec (.period p) (s.shifted k ⟨shr, cnt, true⟩) =
      if cnt = 7 then deliverTapeByte shr (s.ses.pos + k) (s.shifted (k + 1) ⟨shr, 0, false⟩)
      else .next (s.shifted (k + 1) ⟨shr, cnt + 1, false⟩) := by
  have hlt : ¬s.ses.thr.cutoff.toNat ≤ p.toNat * 256 := Nat.not_le.2 (syncOk_iff.1 hsync)
  have hpos : s.ses.pos + k + 1 = s.ses.pos + (k + 1) := BitVec.add_assoc ..
  rw [exec_tapeByte (s := s.shifted k ⟨shr, cnt, true⟩) hst hp, tapeBytePeriod_sync rfl]
  refine (if_neg hlt).trans ?_
  simp only [State.shifted, State.countPeriod, hpos]

theorem tapeCell_data_toNat (hmax : u.toNat ≤ 32767) :
    (if bit then 2 * u else u).toNat = if bit then 2 * u.toNat else u.toNat := by
  cases bit with
  | false => rfl
  | true =>
    show (2 * u).toNat = 2 * u.toNat
    bv_omega

/-- The state `s` after the first `n` cells of a byte, for `n` below 8. -/
def State.afterCells (s : State) (v : Byte) (n : Nat) : State :=
  s.shifted (BitVec.ofNat 32 (2 * n)) ⟨shrAfter s.ses.bits.shr v n, BitVec.ofNat 4 n, false⟩

/-- Before its first cell, a byte finds the shifter as it stands. -/
theorem State.afterCells_zero (hbph : s.ses.bits.bph = false) (hcnt : s.ses.bits.bitcnt = 0) : s.afterCells v 0 = s := by
  have hbits : s.ses.bits = ⟨s.ses.bits.shr, 0, false⟩ := by rw [← hbph, ← hcnt]
  rw [State.afterCells, shrAfter_zero]
  exact (congrArg (s.shifted 0) hbits.symm).trans s.shifted_zero

end

section
variable {s : State} {u : Half} {v shr : Byte} {bit : Bool} {cnt : BitVec 4} {k : Word} {n : Nat}
variable (hst : s.st.isTapeByte = true) (hmin : 1 ≤ u.toNat) (hmax : u.toNat ≤ 32767)
  (hcut : s.ses.thr.cutoff.toNat = 384 * u.toNat) (hlong : s.ses.thr.maxlen.toNat = 768 * u.toNat)
include hst hmin hmax hcut hlong

/-- A cell of the calibrated unit has a legal data period of its bit's class (42_demod.md R171). -/
theorem execPeriods_tapeCell :
    execPeriods (tapeCell u bit) (s.shifted k ⟨shr, cnt, false⟩) =
      exec (.period u) (s.shifted (k + 1) ⟨(shr >>> 1) ||| (if bit then 0x80 else 0), cnt, true⟩) := by
  have hdata := tapeCell_data_toNat (bit := bit) hmax
  have hne : (if bit then 2 * u else u) ≠ 0 := by
    intro h0
    rw [h0] at hdata
    cases bit <;> simp at hdata <;> omega
  have hclass : isOne s.ses.thr (if bit then 2 * u else u) = bit := by
    rw [Bool.eq_iff_iff, isOne_iff, hdata, hcut]
    cases bit <;> simp <;> omega
  have hlegal : tooLong s.ses.thr (if bit then 2 * u else u) = false := by
    rw [tooLong_eq_false_iff, hdata, hlong]
    split <;> omega
  rw [tapeCell, execPeriods_cons (exec_dataPeriod hst hne hclass hlegal), execPeriods_singleton]

/-- The next cell of a byte; the eighth completes it. -/
theorem execPeriods_nextCell (hn : n < 8) :
    execPeriods (tapeCell u (v.getLsbD n)) (s.afterCells v n) =
      if n = 7 then deliverTapeByte v (s.ses.pos + 15) (s.shifted 16 ⟨v, 0, false⟩) else .next (s.afterCells v (n + 1)) := by
  have hu : u ≠ 0 := by rintro rfl; simp at hmin
  have hsync : syncOk s.ses.thr u = true := by rw [syncOk_iff]; omega
  rw [State.afterCells, execPeriods_tapeCell hst hmin hmax hcut hlong, exec_syncPeriod hst hu hsync, shrAfter_succ _ _ hn]
  by_cases hlast : n = 7
  · subst hlast
    rw [if_pos (show BitVec.ofNat 4 7 = 7 from rfl), if_pos rfl, shrAfter_eight]
    rfl
  · have hcnt : BitVec.ofNat 4 n ≠ 7 := by bv_omega
    have hpos : BitVec.ofNat 32 (2 * n) + 1 + 1 = BitVec.ofNat 32 (2 * (n + 1)) := by bv_omega
    have hinc : BitVec.ofNat 4 n + 1 = BitVec.ofNat 4 (n + 1) := by bv_omega
    rw [if_neg hcnt, if_neg hlast, hpos, hinc, State.afterCells]

/-- Up to the seventh cell, by induction on their number. -/
theorem execPeriods_tapeCells (hbph : s.ses.bits.bph = false) (hcnt : s.ses.bits.bitcnt = 0) (hn : n < 8) :
    execPeriods (tapeCells u v n) s = .next (s.afterCells v n) := by
  induction n with
  | zero =>
    rw [State.afterCells_zero hbph hcnt]
    rfl
  | succ n ih =>
    rw [tapeCells_succ, execPeriods_append (ih (by omega)), execPeriods_nextCell hst hmin hmax hcut hlong (by omega),
      if_neg (by omega)]

end

/-- Settles O36: seven cells fill all but one bit of the shifter, and the eighth completes the byte. -/
theorem tapeByteRoundTrip : Obligations.TapeByteRoundTrip := by
  intro s u v hst hbph hcnt hmin hmax hcut hlong
  have hseven := execPeriods_tapeCells (v := v) hst hmin hmax hcut hlong hbph hcnt (show 7 < 8 by decide)
  rw [tapeByte_eq_tapeCells, tapeCells_succ, execPeriods_append hseven,
    execPeriods_nextCell hst hmin hmax hcut hlong (by decide), if_pos rfl]
  rfl

end Sys2Proof.Machine

namespace Sys2Proof.Machine

/-! ## Disk intervals -/

/-- The class of a legal interval has so many half-cells (42_demod.md R164). -/
theorem unitClass_legal {t : Thresholds} {p : Half} (hlow : 3 * t.unit.toNat ≤ 1024 * p.toNat)
    (hhigh : 1024 * p.toNat ≤ 9 * t.unit.toNat) : ∃ c, unitClass t p = some c ∧ c.halfCells = halfCells t.unit p := by
  rw [unitClass, Nat.shiftLeft_eq, Nat.mul_comm]
  unfold halfCells
  split_ifs with hshort hmedium
  · exact ⟨.short, classify_eq_short_iff.2 ⟨hlow, hshort⟩, rfl⟩
  · exact ⟨.medium, classify_eq_medium_iff.2 ⟨Nat.not_lt.1 hshort, hmedium⟩, rfl⟩
  · exact ⟨.long, classify_eq_long_iff.2 ⟨Nat.not_lt.1 hmedium, hhigh⟩, rfl⟩

/-- A period outside 0.75 to 2.25 units is in no class. -/
theorem unitClass_illegal {t : Thresholds} {p : Half}
    (h : 1024 * p.toNat < 3 * t.unit.toNat ∨ 9 * t.unit.toNat < 1024 * p.toNat) : unitClass t p = none := by
  rw [unitClass, Nat.shiftLeft_eq, Nat.mul_comm, classify]
  split_ifs with hshort hlong
  · rfl
  · rfl
  all_goals exact absurd h (not_or_intro hshort hlong)

section
variable {s : State} {p : Half}

theorem exec_sectorHeader (hst : s.st = .dReadHdr) (hp : p ≠ 0) : exec (.period p) s =
    .next (diskBytePeriod headerPeriodBad deliverSectorHeader p s.ses.pos s.countPeriod) := by
  rw [exec_period_of_ready (State.ready_of_st hst rfl) hp, periodByState, State.countPeriod_st, hst]

theorem exec_sectorData (hst : s.st = .dReadData) (hp : p ≠ 0) : exec (.period p) s =
    .next (diskBytePeriod dataPeriodBad deliverSectorData p s.ses.pos s.countPeriod) := by
  rw [exec_period_of_ready (State.ready_of_st hst rfl) hp, periodByState, State.countPeriod_st, hst]

end

/-! ## A bad period -/

section
variable {s : State} {p : Half} {idx : Word} {bad : Word → State → State} {d : Byte → Word → State → State}

theorem diskBytePeriod_illegal
    (h : 1024 * p.toNat < 3 * s.ses.thr.unit.toNat ∨ 9 * s.ses.thr.unit.toNat < 1024 * p.toNat) :
    diskBytePeriod bad d p idx s = bad idx s := by
  rw [diskBytePeriod, unitClass_illegal h]

theorem keepsPartial_iff : keepsPartial s = true ↔ s.cfg.keepBad = true ∧ s.ses.byteidx ≠ 0 := by
  simp [keepsPartial]

/-- Partial delivery, register by register (45_framing_disk.md R244). -/
theorem partialDelivery_eq {slen : BitVec 11}
    (hslen : BitVec.ofNat 11 (min (s.ses.byteidx.toNat - 1) s.ses.sec.size.toNat) = slen) :
    partialDelivery s = { s with
      st := .dDeliver
      ses.sec.slen := slen
      ses.sec.sizeOk := decide (slen = s.ses.sec.size)
      ses.sec.dataCrcOk := false
      ses.sec.svalid := false
      ses.sec.dcrcRd := 0
      ses.sec.dcrcCk := s.ck
      evt := s.evt ||| 0x004 } := by
  rw [partialDelivery, hslen]
  rfl

end

/-- Settles O46: the header is dropped; the data are delivered in part or dropped. -/
theorem badDiskPeriod : Obligations.BadDiskPeriod := by
  intro s p hp hillegal s1 bad slen
  constructor
  · intro hst
    rw [exec_sectorHeader hst hp, diskBytePeriod_illegal (s := s.countPeriod) hillegal]
    rfl
  · intro hst
    rw [exec_sectorData hst hp, diskBytePeriod_illegal (s := s.countPeriod) hillegal, dataPeriodBad]
    exact congrArg _ (if_congr keepsPartial_iff (partialDelivery_eq rfl) rfl)

/-! ## Raw bits -/

/-- A bit pushed in at the low end. -/
theorem getLsbD_append_ofBool {m : Nat} (x : BitVec m) (b : Bool) (i : Nat) :
    (x ++ BitVec.ofBool b).getLsbD i = if i = 0 then b else x.getLsbD (i - 1) := by
  rw [BitVec.getLsbD_append]
  cases i <;> simp

theorem rawPush_eq (raw : Half) (b : Bool) : raw.extractLsb' 0 15 ++ BitVec.ofBool b = (raw <<< 1) ||| (if b then 1 else 0) := by
  refine BitVec.eq_of_getLsbD_eq fun i (hi : i < 16) => (getLsbD_append_ofBool _ b i).trans ?_
  cases i with
  | zero => cases b <;> simp
  | succ i =>
    have hlow : i < 15 := Nat.lt_of_succ_lt_succ hi
    cases b <;> simp [-BitVec.getLsbD_eq_getElem, hi, hlow]

/-- The data byte is every second raw bit (42_demod.md R167). -/
theorem dataByte_getLsbD (raw : Half) (j : Fin 8) : (dataByte raw).getLsbD j.val = raw.getLsbD (2 * j.val) := by
  unfold dataByte
  simp only [getLsbD_append_ofBool, BitVec.getLsbD_ofBool]
  fin_cases j <;> rfl

/-- The state with the raw-bit shifter set. -/
def State.withRaw (s : State) (raw : Half) (n : Nat) : State := { s with ses.rawb := ⟨raw, BitVec.ofNat 5 n⟩ }

section
variable {d : Byte → Word → State → State} {idx : Word} {s : State} {r : Bool} {rs : List Bool} {j m n : Nat}

theorem State.withRaw_rawcnt_toNat (raw : Half) (hn : n < 32) : (s.withRaw raw n).ses.rawb.rawcnt.toNat = n :=
  Nat.mod_eq_of_lt hn

/-- A raw bit before the sixteenth (42_demod.md R165). -/
theorem pushRaw_cons_of_lt (hcnt : s.ses.rawb.rawcnt.toNat < 15) : pushRaw d idx (r :: rs) s =
    pushRaw d idx rs (s.withRaw ((s.ses.rawb.raw <<< 1) ||| (if r then 1 else 0)) (s.ses.rawb.rawcnt.toNat + 1)) := by
  have hne : s.ses.rawb.rawcnt + 1 ≠ 16 := by bv_omega
  have hinc : s.ses.rawb.rawcnt + 1 = BitVec.ofNat 5 (s.ses.rawb.rawcnt.toNat + 1) := by bv_omega
  rw [pushRaw_bit hne, rawPush_eq, hinc, State.withRaw]

/-- The sixteenth raw bit completes a byte, and the bits behind it go on unless the byte changed `ST` (42_demod.md R165). -/
theorem pushRaw_cons_of_eq (hcnt : s.ses.rawb.rawcnt.toNat = 15) : pushRaw d idx (r :: rs) s =
    (let raw := (s.ses.rawb.raw <<< 1) ||| (if r then 1 else 0)
    let s2 := d (dataByte raw) idx (s.withRaw raw 0)
    if s2.st = s.st then pushRaw d idx rs s2 else s2) := by
  have hfull : s.ses.rawb.rawcnt + 1 = 16 := by bv_omega
  rw [pushRaw, if_pos hfull, rawPush_eq]
  rfl

/-- Zeros before the sixteenth bit shift `RAW`. -/
theorem pushRaw_zeros (rs : List Bool) (hcnt : s.ses.rawb.rawcnt.toNat + m ≤ 15) :
    pushRaw d idx (List.replicate m false ++ rs) s =
      pushRaw d idx rs (s.withRaw (s.ses.rawb.raw <<< m) (s.ses.rawb.rawcnt.toNat + m)) := by
  induction m generalizing s with
  | zero => simp [State.withRaw]
  | succ m ih =>
    have hzero : (s.ses.rawb.raw <<< 1) ||| (if false then (1 : Half) else 0) = s.ses.rawb.raw <<< 1 := BitVec.or_zero
    have hval := s.withRaw_rawcnt_toNat (s.ses.rawb.raw <<< 1) (n := s.ses.rawb.rawcnt.toNat + 1) (by omega)
    rw [List.replicate_succ, List.cons_append, pushRaw_cons_of_lt (by omega), hzero, ih (by omega), hval]
    simp only [State.withRaw, ← BitVec.shiftLeft_add, Nat.add_comm 1 m, Nat.add_assoc]

/-- An interval that ends before the sixteenth bit. -/
theorem pushRaw_interval_of_lt (hcnt : s.ses.rawb.rawcnt.toNat + (m + 1) < 16) :
    pushRaw d idx (List.replicate m false ++ [true]) s =
      s.withRaw ((s.ses.rawb.raw <<< (m + 1)) ||| 1) (s.ses.rawb.rawcnt.toNat + (m + 1)) := by
  have hval := s.withRaw_rawcnt_toNat (s.ses.rawb.raw <<< m) (n := s.ses.rawb.rawcnt.toNat + m) (by omega)
  rw [pushRaw_zeros _ (by omega), pushRaw_cons_of_lt (by omega), hval, BitVec.shiftLeft_add]
  rfl

/-- What is left of an interval behind a byte. -/
theorem pushRaw_carry (hcnt : s.ses.rawb.rawcnt.toNat = 0) (hm : m < 15) :
    pushRaw d idx (List.replicate m false ++ [true]) s = s.withRaw ((s.ses.rawb.raw <<< (m + 1)) ||| 1) (m + 1) := by
  rw [pushRaw_interval_of_lt (by omega), hcnt, Nat.zero_add]

/-- Zeros and the sixteenth bit behind them. -/
theorem pushRaw_byte (hcnt : s.ses.rawb.rawcnt.toNat + j = 15) : pushRaw d idx (List.replicate j false ++ r :: rs) s =
    (let raw := (s.ses.rawb.raw <<< (j + 1)) ||| (if r then 1 else 0)
    let s2 := d (dataByte raw) idx (s.withRaw raw 0)
    if s2.st = s.st then pushRaw d idx rs s2 else s2) := by
  have hval := s.withRaw_rawcnt_toNat (s.ses.rawb.raw <<< j) (n := s.ses.rawb.rawcnt.toNat + j) (by omega)
  rw [pushRaw_zeros _ (by omega), pushRaw_cons_of_eq (by omega), BitVec.shiftLeft_add]
  rfl

/-- An interval of `m + 1` half-cells that reaches the sixteenth bit: what is left of it goes on behind the byte
(42_demod.md R165). -/
theorem pushRaw_interval_of_le (hd : ∀ b u, (d b idx u).ses.rawb = u.ses.rawb) (hle : s.ses.rawb.rawcnt.toNat ≤ 15)
    (hfull : 16 ≤ s.ses.rawb.rawcnt.toNat + (m + 1)) (hm : m < 15) : pushRaw d idx (List.replicate m false ++ [true]) s =
      (let k := 16 - s.ses.rawb.rawcnt.toNat
      let raw := (s.ses.rawb.raw <<< k) ||| (if k = m + 1 then 1 else 0)
      let s2 := d (dataByte raw) idx (s.withRaw raw 0)
      if s2.st = s.st ∧ k < m + 1 then s2.withRaw ((s2.ses.rawb.raw <<< (m + 1 - k)) ||| 1) (m + 1 - k) else s2) := by
  obtain ⟨j, hj⟩ : ∃ j, s.ses.rawb.rawcnt.toNat + j = 15 := ⟨_, Nat.add_sub_cancel' hle⟩
  have hk : 16 - s.ses.rawb.rawcnt.toNat = j + 1 := by omega
  rw [hk]
  by_cases hlast : j = m
  · subst hlast
    rw [pushRaw_byte hj]
    simp only [Nat.lt_irrefl, and_false, if_false, if_true, pushRaw, ite_self]
  · obtain ⟨i, rfl⟩ : ∃ i, m = j + (i + 1) := ⟨m - j - 1, by omega⟩
    have hbits : List.replicate (j + (i + 1)) false ++ [true] =
        List.replicate j false ++ false :: (List.replicate i false ++ [true]) := by
      rw [List.replicate_add, List.append_assoc, List.replicate_succ, List.cons_append]
    have hne : ¬j + 1 = j + (i + 1) + 1 := by omega
    have hlt : j + 1 < j + (i + 1) + 1 := by omega
    have hleft : j + (i + 1) + 1 - (j + 1) = i + 1 := by omega
    rw [hbits, pushRaw_byte hj]
    simp only [hne, hlt, hleft, and_true, if_false]
    exact if_congr Iff.rfl (pushRaw_carry (by rw [hd]; rfl) (by omega)) rfl

end

/-! ## The delivery of a disk byte keeps the shifter -/

section
variable {s : State} {b : Byte} {idx : Word}

theorem headerSizeStep_rawb : (headerSizeStep idx s).ses.rawb = s.ses.rawb := by
  unfold headerSizeStep
  split <;> rfl

theorem headerCrcStep_rawb : (headerCrcStep b idx s).ses.rawb = s.ses.rawb := by
  dsimp only [headerCrcStep]
  split_ifs
  exacts [headerSizeStep_rawb, headerSizeStep_rawb, rfl]

theorem deliverSectorHeader_rawb : (deliverSectorHeader b idx s).ses.rawb = s.ses.rawb := by
  obtain ⟨c, _, hfield⟩ := storeSectorField_eq s.ses.byteidx.toNat b s
  dsimp only [deliverSectorHeader]
  rw [hfield]
  split_ifs
  exacts [rfl, rfl, rfl, headerCrcStep_rawb]

end

/-! ## A legal interval -/

/-- The delivery of a byte-reading disk state (42_demod.md R168). -/
def Ctl.diskByteRule (c : Ctl) : Byte → Word → State → State :=
  if c = .dReadHdr then deliverSectorHeader else deliverSectorData

theorem diskByteRule_rawb (c : Ctl) (b : Byte) (idx : Word) (s : State) :
    (c.diskByteRule b idx s).ses.rawb = s.ses.rawb := by
  unfold Ctl.diskByteRule
  split
  exacts [deliverSectorHeader_rawb, deliverSectorData_rawb]

theorem diskByteRule_eq (b : Byte) (idx : Word) (s : State) : s.st.diskByteRule b idx s = deliverDiskByte b idx s := by
  unfold Ctl.diskByteRule deliverDiskByte
  split <;> rfl

/-- A legal interval of `m + 1` half-cells pushes `m` zeros and a one (42_demod.md R164, R165). -/
theorem exec_interval {s : State} {p : Half} (hst : s.st = .dReadHdr ∨ s.st = .dReadData) (hp : p ≠ 0)
    (hlow : 3 * s.ses.thr.unit.toNat ≤ 1024 * p.toNat) (hhigh : 1024 * p.toNat ≤ 9 * s.ses.thr.unit.toNat) :
    ∃ m, halfCells s.ses.thr.unit p = m + 1 ∧ m < 15 ∧ exec (.period p) s =
      .next (pushRaw s.st.diskByteRule s.ses.pos (List.replicate m false ++ [true]) s.countPeriod) := by
  obtain ⟨c, hclass, hcells⟩ := unitClass_legal hlow hhigh
  have hbits {bad : Word → State → State} {d : Byte → Word → State → State} :
      diskBytePeriod bad d p s.ses.pos s.countPeriod = pushRaw d s.ses.pos (rawBitsOf c) s.countPeriod := by
    rw [diskBytePeriod, State.countPeriod_thr, hclass]
  refine ⟨c.halfCells - 1, ?_, ?_, ?_⟩
  · rw [← hcells]
    cases c <;> rfl
  · cases c <;> decide
  · rcases hst with hst | hst
    · rw [exec_sectorHeader hst hp, hbits, hst]
      rfl
    · rw [exec_sectorData hst hp, hbits, hst]
      rfl

/-- Settles O45: the interval ends before the sixteenth raw bit, or a byte is delivered on the way. -/
theorem diskInterval : Obligations.DiskInterval := by
  intro s p hst hp hlow hhigh hle n s1
  obtain ⟨m, hn, hm, hrun⟩ := exec_interval hst hp hlow hhigh
  have hn : n = m + 1 := hn
  rw [hn, hrun]
  constructor
  · intro hfew
    rw [pushRaw_interval_of_lt (s := s.countPeriod) hfew]
    rfl
  · intro hfull k raw
    refine ⟨dataByte raw, dataByte_getLsbD raw, ?_⟩
    rw [pushRaw_interval_of_le (s := s.countPeriod) (fun b u => diskByteRule_rawb s.st b _ u) hle hfull hm,
      ← diskByteRule_eq]
    rfl

end Sys2Proof.Machine

namespace Sys2Proof.Machine

/-! ## The tape checksum is the byte sum modulo 65535, taken in 1 to 65535 (43_checksum.md R176, R178) -/

/-- The word in which end-around carry keeps the sum `n`: 0 for 0, else the representative of `n` modulo 65535 in 1 to 65535. -/
def endAround (n : Nat) : Nat := if n = 0 then 0 else (n - 1) % 65535 + 1

/-- A sum that fits a half word is its own representative, 65535 included. -/
theorem endAround_of_lt {n : Nat} (h : n < 65536) : endAround n = n := by
  unfold endAround
  split <;> omega

/-- A sum of two representatives need not be reduced before it is added to. -/
theorem endAround_add (m n : Nat) : endAround (endAround m + n) = endAround (m + n) := by
  unfold endAround
  split_ifs <;> omega

theorem sumUpd_toNat (a : Half) (b : Byte) : (sumUpd a b).toNat = endAround (a.toNat + b.toNat) := by
  have ha := a.isLt
  have hb := b.isLt
  dsimp only [sumUpd]
  split_ifs with hcarry
  · rw [BitVec.toNat_ofNat, endAround]
    split_ifs <;> omega
  · rw [BitVec.toNat_ofNat, endAround_of_lt (by omega)]
    omega

theorem foldl_sumUpd_toNat (bs : List Byte) (a : Half) :
    (bs.foldl sumUpd a).toNat = endAround (a.toNat + (bs.map BitVec.toNat).sum) := by
  induction bs generalizing a with
  | nil => exact (endAround_of_lt a.isLt).symm
  | cons b bs ih => rw [List.foldl_cons, ih, sumUpd_toNat, endAround_add, List.map_cons, List.sum_cons, Nat.add_assoc]

/-- Settles O59: the fold over the bytes carries `endAround` of the sum so far. -/
theorem tapeSumClosedForm : Obligations.TapeSumClosedForm := by
  intro bs
  rw [tapeChecksum, foldl_sumUpd_toNat, BitVec.ofNat_eq_ofNat, BitVec.toNat_zero, Nat.zero_add, endAround]

/-! ## The residue of the CRC (43_checksum.md R179 to R181) -/

/-- While the top bit is clear a shift has no feedback. -/
theorem crcShift_of_lt {c : Half} (h : c.toNat < 32768) : crcShift c = c <<< 1 := by
  have htop : c.getLsbD 15 = false := Nat.testBit_lt_two_pow h
  rw [crcShift, htop]
  rfl

/-- `n` shifts of a register whose top `n` bits are clear only move it up. -/
theorem crcShifts_of_lt {n : Nat} {c : Half} (h : c.toNat * 2 ^ n < 65536) : crcShifts n c = c <<< n := by
  induction n generalizing c with
  | zero => rw [crcShifts, BitVec.shiftLeft_zero]
  | succ n ih =>
    rw [Nat.pow_succ', ← Nat.mul_assoc] at h
    have hle : c.toNat * 2 ≤ c.toNat * 2 * 2 ^ n := Nat.le_mul_of_pos_right _ (Nat.two_pow_pos n)
    have hc : c.toNat < 32768 := by omega
    have hdouble : (c <<< 1).toNat = c.toNat * 2 := by
      rw [BitVec.toNat_shiftLeft, Nat.shiftLeft_eq]
      omega
    have hnext : (c <<< 1).toNat * 2 ^ n < 65536 := by rwa [hdouble]
    rw [crcShifts, crcShift_of_lt hc, ih hnext, ← BitVec.shiftLeft_add, Nat.add_comm]

/-- The byte fed cancels the register's high byte, and the low byte moves up without feedback. -/
theorem crcUpd_append (hi lo : Byte) : crcUpd (hi ++ lo) hi = lo ++ 0#8 := by
  have hlo := lo.isLt
  have hcancel : (hi ++ lo) ^^^ (hi ++ 0#8) = 0#8 ++ lo := by
    rw [BitVec.xor_append, BitVec.xor_self, BitVec.xor_zero]
  have hsmall : (0#8 ++ lo).toNat = lo.toNat := by
    rw [BitVec.toNat_append]
    simp
  have hmove : (0#8 ++ lo) <<< 8 = lo ++ 0#8 := by
    rw [BitVec.shiftLeft_eq_concat_of_lt (by decide), BitVec.extractLsb'_append_eq_right]
    rfl
  rw [crcUpd, hcancel, crcShifts_of_lt (by omega), hmove]

theorem crcUpd_highByte (c : Half) : crcUpd c (c.extractLsb' 8 8) = c.extractLsb' 0 8 ++ 0#8 := by
  have h := crcUpd_append (c.extractLsb' 8 8) (c.extractLsb' 0 8)
  rwa [BitVec.extractLsb'_append_extractLsb'] at h

theorem crcCcitt_append_pair (bs : List Byte) (b b' : Byte) :
    crcCcitt (bs ++ [b, b']) = crcUpd (crcUpd (crcCcitt bs) b) b' := by
  rw [crcCcitt, List.foldl_append]
  rfl

/-- The preset of `CK` behind a disk marker, byte by byte (43_checksum.md R180). -/
theorem crcCcitt_marks : crcCcitt [0xA1, 0xA1, 0xA1] = 0xCDB4 := by
  have h1 : crcUpd 0xFFFF 0xA1 = 0x443B := by decide
  have h2 : crcUpd 0x443B 0xA1 = 0x968B := by decide
  have h3 : crcUpd 0x968B 0xA1 = 0xCDB4 := by decide
  rw [crcCcitt, List.foldl_cons, h1, List.foldl_cons, h2, List.foldl_cons, h3, List.foldl_nil]

/-- Settles O60: the high byte leaves the low byte on top of an empty register, and the low byte clears it. -/
theorem crcResidue : Obligations.CrcResidue := by
  refine ⟨fun bs => ?_, crcCcitt_marks⟩
  rw [crcCcitt_append_pair, crcUpd_highByte, crcUpd_append, BitVec.zero_append_zero]
  rfl

/-! ## The checksum commands (43_checksum.md R183, R184) -/

theorem cmdCkinit_idle (alg : Bool) {s : State} (h : s.st.isIdle = true) :
    cmdCkinit alg s = { s with ckalg := alg, ck := if alg then 0xFFFF else 0 } := by
  simp [cmdCkinit, h]

theorem cmdCkbyte_idle (b : Byte) {s : State} (h : s.st.isIdle = true) :
    cmdCkbyte b s = { s with ck := if s.ckalg then crcUpd s.ck b else sumUpd s.ck b } := by
  simp [cmdCkbyte, h]

/-- Settles O18: both commands are accepted in the idle states. -/
theorem checksumCommands : Obligations.ChecksumCommands := by
  intro s hst
  have hidle := State.isIdle_iff.2 hst
  exact ⟨fun alg => congrArg Host.Outcome.next (cmdCkinit_idle alg hidle),
    fun b => congrArg Host.Outcome.next (cmdCkbyte_idle b hidle)⟩

end Sys2Proof.Machine

namespace Sys2Proof.Machine

/-! SUPPORT and certificates: the HELP7 bookkeeping (44_framing_tape.md R216, R219). The fields the bookkeeping reads are written by
three rules only: the header's geometry, an accepted block, and the clearing of the session. Every other rule leaves them alone, and
the invariant keeps all but the geometry from entering a HELP7 state. -/

/-! ## The lengths of the blocks add up to LENGTH -/

/-- All blocks together have LENGTH bytes (44_framing_tape.md R208). -/
theorem explen_sum {length blk : Nat} (hblk : 0 < blk) (hpos : 1 ≤ blockCount length blk) :
    ∑ k ∈ Finset.range (blockCount length blk), explen (blockCount length blk) length blk (k + 1) = length := by
  obtain ⟨hlast, _⟩ := blockCount_bounds hblk hpos
  obtain ⟨m, hm⟩ := Nat.exists_eq_add_of_le' hpos
  rw [hm] at hlast ⊢
  have hfull : ∀ k ∈ Finset.range m, explen (m + 1) length blk (k + 1) = blk := fun k hk =>
    if_pos (Nat.succ_lt_succ (Finset.mem_range.1 hk))
  have hrest : explen (m + 1) length blk (m + 1) = length - m * blk := if_neg (Nat.lt_irrefl _)
  rw [Finset.sum_range_succ, Finset.sum_congr rfl hfull, hrest, Finset.sum_const, Finset.card_range, smul_eq_mul]
  exact Nat.add_sub_of_le hlast.le

/-- The accepted blocks, numbered from 0. -/
def acceptedBlocks (s : State) : Finset Nat := (Finset.range s.ses.h7.nb.toNat).filter fun k => s.ses.h7.seen.getLsbD k = true

/-- The length of the block numbered `k` from 0. -/
def blockLength (s : State) (k : Nat) : Nat :=
  explen s.ses.h7.nb.toNat s.ses.rcd.length.toNat s.cfg.h7blk.toNat (k + 1)

theorem splicedBytes_eq (s : State) : splicedBytes s = ∑ k ∈ acceptedBlocks s, blockLength s k := by
  rw [acceptedBlocks, Finset.sum_filter]
  rfl

section
variable {s t : State} {p : Half} {b : Byte} {idx : Word}

/-- Before the first block is accepted nothing is spliced. -/
theorem splicedBytes_of_unseen (h : s.ses.h7.seen = 0) : splicedBytes s = 0 := by
  simp [splicedBytes, h]

/-- The accepted blocks never exceed the file. -/
theorem BlockFile.sum_blockLength_le (h : BlockFile s) {m : Finset Nat} (hm : m ⊆ Finset.range s.ses.h7.nb.toNat) :
    ∑ k ∈ m, blockLength s k ≤ s.ses.rcd.length.toNat :=
  calc ∑ k ∈ m, blockLength s k
      ≤ ∑ k ∈ Finset.range s.ses.h7.nb.toNat, blockLength s k := Finset.sum_le_sum_of_subset hm
    _ = s.ses.rcd.length.toNat := by
      unfold blockLength
      rw [h.nb]
      exact explen_sum h.h7blk_pos (h.nb ▸ h.nb_pos)

/-! ## The fields of the bookkeeping -/

/-- What the bookkeeping reads besides `ST` and `H7BLK`: `H7ACT`, `NB`, `SEEN`, `REMAIN`, `LENGTH`. -/
def State.books (s : State) : Bool × BitVec 9 × BitVec 256 × Half × Half :=
  (s.ses.h7.h7act, s.ses.h7.nb, s.ses.h7.seen, s.ses.h7.remain, s.ses.rcd.length)

theorem State.books_eq_iff : t.books = s.books ↔ t.ses.h7.h7act = s.ses.h7.h7act ∧ t.ses.h7.nb = s.ses.h7.nb
    ∧ t.ses.h7.seen = s.ses.h7.seen ∧ t.ses.h7.remain = s.ses.h7.remain ∧ t.ses.rcd.length = s.ses.rcd.length := by
  simp [State.books]

/-- The bookkeeping holds on while its fields stay and no HELP7 state is entered. -/
theorem Help7Books.congr (h : Help7Books s) (hbooks : t.books = s.books) (hblk : t.cfg.h7blk = s.cfg.h7blk)
    (hst : t.st.isHelp7 = true → s.st.isHelp7 = true) : Help7Books t := by
  obtain ⟨hact, hnb, hseen, hremain, hlength⟩ := State.books_eq_iff.1 hbooks
  unfold Help7Books splicedBytes
  rw [hact, hnb, hseen, hremain, hlength, hblk]
  obtain ⟨hsum, hmissing⟩ := h
  exact ⟨hsum, fun h7 => hmissing (hst h7)⟩

/-- No HELP7 file, no bookkeeping. -/
theorem Help7Books.of_inactive (hact : s.ses.h7.h7act = false) (hst : s.st.isHelp7 = false) : Help7Books s :=
  ⟨fun h => absurd h (by simp [hact]), fun h => absurd h (by simp [hst])⟩

/-- A HELP7 state is entered from a HELP7 state only, as long as `H7ACT` and the configuration stay: an ordinary file has `H7ACT`
0, and an MFM session has another profile. -/
theorem Inv.help7_of_help7 (hs : Inv s) (ht : Inv t) (hact : t.ses.h7.h7act = s.ses.h7.h7act) (hcfg : t.cfg = s.cfg)
    (hidle : s.st.isIdle = false) (h7 : t.st.isHelp7 = true) : s.st.isHelp7 = true := by
  have hfile := ht.blockFile h7
  rcases Ctl.class_of_not_idle hidle with ⟨htape, hno⟩ | hyes | hdisk
  · have hinactive := (hs.tapeFile htape hno).ordinary
    rw [← hact, hfile.active] at hinactive
    cases hinactive
  · exact hyes
  · have hprofile := (hs.diskRun hdisk).profile
    rw [← hcfg, hfile.profile] at hprofile
    exact absurd hprofile (by decide)

/-- A rule of a token that leaves the fields of the bookkeeping alone keeps it. -/
theorem Help7Books.token (h : Help7Books s) (hs : Inv s) (ht : Inv t) (hbooks : t.books = s.books) (hcfg : t.cfg = s.cfg)
    (hidle : s.st.isIdle = false) : Help7Books t :=
  h.congr hbooks (congrArg _ hcfg) (hs.help7_of_help7 ht (State.books_eq_iff.1 hbooks).1 hcfg hidle)

/-! ### Rules that leave them alone -/

theorem findPilot_books : (findPilot p s).books = s.books := by
  unfold findPilot pilotAccumulate
  split_ifs <;> rfl

theorem pilotSync1_books : (pilotSync1 p idx s).books = s.books := by
  unfold pilotSync1
  split_ifs <;> rfl

theorem pilotSync0_books : (pilotSync0 p idx s).books = s.books := by
  unfold pilotSync0
  split_ifs <;> rfl

theorem strictMarker_books {done : State → State} (hdone : (done s).books = s.books) :
    (strictMarker done p idx s).books = s.books := by
  unfold strictMarker
  split
  · unfold strictLead; split_ifs <;> rfl
  · unfold strictBody; split <;> rfl
  · unfold strictFinal; split_ifs <;> rfl
  · unfold strictSync1; split_ifs <;> rfl
  · unfold strictSync0; split_ifs; exacts [rfl, hdone]

theorem seekMarker_books (h : seekMarker p s = .next t) : t.books = s.books := by
  rcases seekMarker_next h with ⟨_, rfl⟩ | ⟨_, rfl⟩ | ⟨_, rfl⟩
  · unfold seekLead; split_ifs <;> rfl
  · unfold seekSync1; split <;> rfl
  · unfold seekSync0; split <;> rfl

theorem trailerMarker_books (h : trailerMarker p s = .next t) : t.books = s.books := by
  rcases trailerMarker_next h with ⟨_, rfl⟩ | ⟨_, rfl⟩ | ⟨_, rfl⟩
  · unfold trailerLead; split <;> rfl
  · rfl
  · rfl

theorem deliverData_books (h : deliverData b idx s = .next t) : t.books = s.books := by
  rw [deliverData_next] at h
  obtain rfl := Host.Outcome.next.inj h
  split <;> rfl

theorem deliverChecksum_books (h : deliverChecksum b idx s = .next t) : t.books = s.books := by
  dsimp only [deliverChecksum] at h
  split at h <;> obtain rfl := Host.Outcome.next.inj h <;> rfl

theorem deliverBlockHeader_books (h : deliverBlockHeader b idx s = .next t) : t.books = s.books := by
  obtain ⟨_, ⟨_, hdone⟩ | ⟨_, rfl⟩⟩ := deliverBlockHeader_next h
  · rcases blockHeaderDone_next hdone with ⟨_, rfl⟩ | ⟨_, _, ⟨_, rfl⟩ | ⟨_, rfl⟩⟩ <;> rfl
  · rfl

theorem deliverBlockBody_books (h : deliverBlockBody b idx s = .next t) : t.books = s.books := by
  obtain ⟨_, rfl⟩ := deliverBlockBody_next h
  split <;> rfl

theorem findHeader_books : (findHeader p s).books = s.books := by
  dsimp only [findHeader]
  split <;> rfl

theorem findData_books : (findData p idx s).books = s.books := by
  dsimp only [findData]
  split_ifs <;> rfl

theorem headerSizeStep_books : (headerSizeStep idx s).books = s.books := by
  unfold headerSizeStep
  split <;> rfl

theorem deliverSectorHeader_books : (deliverSectorHeader b idx s).books = s.books := by
  obtain ⟨c, _, hfield⟩ := storeSectorField_eq s.ses.byteidx.toNat b s
  dsimp only [deliverSectorHeader, headerCrcStep]
  rw [hfield]
  split_ifs
  exacts [rfl, rfl, rfl, headerSizeStep_books, headerSizeStep_books, rfl]

theorem deliverSectorData_books : (deliverSectorData b idx s).books = s.books := by
  obtain ⟨k, hk⟩ := recordSector_eq (latchDataCrc b s)
  dsimp only [deliverSectorData, dataMark, dataCrcDone]
  rw [hk]
  split_ifs <;> rfl

theorem dataPeriodBad_books : (dataPeriodBad idx s).books = s.books := by
  dsimp only [dataPeriodBad]
  split_ifs <;> rfl

theorem diskBytePeriod_books {bad : Word → State → State} {d : Byte → Word → State → State}
    (hbad : (bad idx s).books = s.books) (hd : ∀ b u, (d b idx u).books = u.books) :
    (diskBytePeriod bad d p idx s).books = s.books := by
  unfold diskBytePeriod
  split
  · exact hbad
  · exact pushRaw_keeps (P := fun u => u.books = s.books) (fun _ _ hu _ => hu) (fun _ _ hu _ => (hd _ _).trans hu) _ s rfl

theorem eosByState_books : (eosByState s).books = s.books := by
  have hsearch : (diskEosSearch s).books = s.books := by
    unfold diskEosSearch; split_ifs <;> rfl
  have hdata : (diskEosData s).books = s.books := by
    dsimp only [diskEosData]; split_ifs <;> rfl
  cases hst : s.st <;> simp only [eosByState, hst]
  case dFindHdr | dReadHdr | dFindData => exact hsearch
  case dReadData => exact hdata
  all_goals rfl

/-! ## The rules that write them -/

/-- An empty file has no block. -/
theorem blockCount_empty (blk : Nat) : blockCount (0#16).toNat blk = 0 :=
  Nat.div_eq_zero_iff.2 (by simp; omega)

/-- Before the first block is accepted all of LENGTH is missing. -/
theorem Help7Books.of_unseen (hseen : s.ses.h7.seen = 0) (hremain : s.ses.h7.remain = s.ses.rcd.length)
    (hst : s.st.isHelp7 = true → s.ses.h7.remain ≠ 0) : Help7Books s :=
  ⟨fun _ => by rw [splicedBytes_of_unseen hseen, hremain, Nat.add_zero], hst⟩

/-- What holds after a period of a byte-reading tape state: what the field's violation, its byte rule and a bare bit give. -/
theorem tapeBytePeriod_gives {Q : State → Prop} {v : Fatal → Word → State → State} {d : Byte → Word → State → Res}
    (hv : ∀ e, Q (v e idx s)) (hd : ∀ c x, d c idx { s with ses.bits := x } = .next t → Q t)
    (hbits : ∀ x, Q { s with ses.bits := x }) (h : tapeBytePeriod v d p idx s = .next t) : Q t := by
  unfold tapeBytePeriod at h
  split at h
  · rcases tapeSyncPeriod_next h with ⟨_, rfl⟩ | ⟨_, _, hbyte⟩ | ⟨_, _, rfl⟩
    · exact hv _
    · exact hd _ _ hbyte
    · exact hbits _
  · rw [tapeDataPeriod_next] at h
    obtain rfl := Host.Outcome.next.inj h
    split
    exacts [hv _, hbits _]

/-- The geometry of a HELP7 file starts the bookkeeping: all of LENGTH is missing (44_framing_tape.md R207). -/
theorem help7Detect_books (hseen : s.ses.h7.seen = 0) : Help7Books (help7Detect idx s) := by
  dsimp only [help7Detect]
  split
  · exact .of_unseen hseen rfl nofun
  · rename_i hnb
    refine .of_unseen hseen rfl fun _ hempty => hnb (.inl ?_)
    have hlength : s.ses.rcd.length = 0 := hempty
    rw [hlength]
    exact blockCount_empty _

/-- A header byte starts the bookkeeping of a HELP7 file or belongs to a file without it. -/
theorem deliverHeader_books (h : deliverHeader b idx s = .next t) (hst : s.st = .tReadHdr) (hact : s.ses.h7.h7act = false)
    (hseen : s.ses.h7.seen = 0) : Help7Books t := by
  obtain ⟨_, ⟨_, rfl⟩ | ⟨_, rfl⟩⟩ := deliverHeader_next h
  · dsimp only [headerDone]
    split
    · exact help7Detect_books hseen
    · exact .of_inactive hact rfl
  · exact .of_inactive hact (congrArg Ctl.isHelp7 hst)

/-- Marking a block seen adds it to the accepted blocks. -/
theorem acceptedBlocks_insert {j : Nat} (hj : j < 256) (hnb : t.ses.h7.nb = s.ses.h7.nb) (hlt : j < s.ses.h7.nb.toNat)
    (hseen : t.ses.h7.seen = s.ses.h7.seen ||| BitVec.twoPow 256 j) :
    acceptedBlocks t = insert j (acceptedBlocks s) := by
  ext k
  have hbit : t.ses.h7.seen.getLsbD k = true ↔ s.ses.h7.seen.getLsbD k = true ∨ k = j := by
    rw [hseen, BitVec.getLsbD_or, BitVec.getLsbD_twoPow, Bool.or_eq_true, Bool.and_eq_true, decide_eq_true_eq,
      decide_eq_true_eq]
    exact or_congr_right ⟨fun h => h.2.symm, fun h => ⟨hj, h.symm⟩⟩
  simp only [acceptedBlocks, Finset.mem_filter, Finset.mem_insert, Finset.mem_range, hnb, hbit]
  constructor
  · rintro ⟨hk, h | rfl⟩
    exacts [.inr ⟨hk, h⟩, .inl rfl]
  · rintro (rfl | ⟨hk, h⟩)
    exacts [⟨hlt, .inr rfl⟩, ⟨hk, .inl h⟩]

/-- An accepted block moves its bytes from `REMAIN` to the spliced ones: it was not counted before, and the file holds it. -/
theorem blockAccepted_books (h : blockAccepted s = .next t) (hf : BlockFile s) (hopen : BlockOpen s)
    (hsum : s.ses.h7.remain.toNat + splicedBytes s = s.ses.rcd.length.toNat) : Help7Books t := by
  obtain ⟨hok, hnew⟩ := hopen
  obtain ⟨hone, hle, hlen, _⟩ := blockHeaderOk_iff.1 hok
  obtain ⟨_, u, hu, hend⟩ := blockAccepted_next h
  set j := s.ses.h7.bnum.toNat - 1 with hj
  have hlt : j < s.ses.h7.nb.toNat := by omega
  have hblocks : acceptedBlocks u = insert j (acceptedBlocks s) := by
    subst hu
    exact acceptedBlocks_insert (hlt.trans_le hf.nb_le) rfl hlt rfl
  have hfresh : j ∉ acceptedBlocks s := by simp [acceptedBlocks, hnew]
  have hlength : blockLength s j = s.ses.h7.blen.toNat := by
    rw [hlen, blockLength, hj, Nat.sub_add_cancel hone]
  have hbytes : splicedBytes u = s.ses.h7.blen.toNat + splicedBytes s := by
    rw [splicedBytes_eq, splicedBytes_eq, hblocks, ← hlength]
    subst hu
    exact Finset.sum_insert hfresh
  have hfits : splicedBytes u ≤ s.ses.rcd.length.toNat := by
    rw [splicedBytes_eq]
    subst hu
    exact hf.sum_blockLength_le (Finset.filter_subset _ _)
  have hremain : u.ses.h7.remain.toNat = s.ses.h7.remain.toNat - s.ses.h7.blen.toNat := by
    subst hu
    exact BitVec.toNat_sub_of_le (by rw [BitVec.le_def]; omega)
  have hbooks : u.ses.h7.remain.toNat + splicedBytes u = u.ses.rcd.length.toNat := by
    rw [hremain, show u.ses.rcd.length = s.ses.rcd.length by rw [hu]; rfl]
    omega
  rcases hend with ⟨_, rfl⟩ | ⟨hmissing, rfl⟩
  · exact ⟨fun _ => hbooks, nofun⟩
  · exact ⟨fun _ => hbooks, fun _ => hmissing⟩

/-- A block checksum byte accepts a block or leaves the bookkeeping alone (44_framing_tape.md R215). -/
theorem deliverBlockChecksum_books (h : deliverBlockChecksum b idx s = .next t) (hwithin : s.st.isHelp7 = true)
    (hf : BlockFile s) (hopen : BlockOpen s) (hb : Help7Books s) : Help7Books t := by
  obtain ⟨hsum, _⟩ := id hb
  rcases deliverBlockChecksum_next h with ⟨_, rfl⟩ | ⟨_, u, rfl, ⟨_, hacc⟩ | ⟨_, rfl⟩⟩
  · exact hb.congr rfl rfl fun _ => hwithin
  · exact blockAccepted_books hacc { hf with } hopen (hsum hf.active)
  · exact hb.congr rfl rfl fun _ => hwithin

/-! ## Every operation and every step -/

theorem State.not_idle_of_ready (h : s.ready = true) : s.st.isIdle = false := by
  rw [State.ready_iff] at h
  simp [Ctl.isIdle, h]

/-- After the common step, a period keeps the bookkeeping: the last header byte starts it, the last checksum byte of a block moves
the block, and every other rule leaves its fields alone. -/
theorem Help7Books.periodByState (hb : Help7Books s) (hs : Inv s) (hp : p ≠ 0) (hr : s.ready = true)
    (h : periodByState p idx s = .next t) : Help7Books t := by
  have ht : Inv t := by
    obtain ⟨u, hu, hinv⟩ := hs.periodByState (idx := idx) hp
    exact Host.Outcome.next.inj (hu.symm.trans h) ▸ hinv
  have hcfg : t.cfg = s.cfg := (State.host_eq_iff.1 (TokenFrame.periodByState h).host).1
  have hkeep (hbooks : t.books = s.books) : Help7Books t := hb.token hs ht hbooks hcfg (State.not_idle_of_ready hr)
  have hfile : ∀ e, (fileViolation e idx s).books = s.books := fun _ => rfl
  have hblock : ∀ e, (help7Violation e idx s).books = s.books := fun _ => rfl
  have hbits : ∀ x, ({ s with ses.bits := x } : State).books = s.books := fun _ => rfl
  cases hst : s.st <;> simp only [Machine.periodByState, hst] at h
  case tReadHdr =>
    obtain ⟨htape, _⟩ := hs.ctl_at hst
    have hseen := (hs.help7.2.1 htape.ordinary).1
    refine tapeBytePeriod_gives (Q := Help7Books) (fun e => ?_) (fun c x hbyte => ?_) (fun x => ?_) h
    · exact .of_inactive htape.ordinary rfl
    · exact deliverHeader_books hbyte hst htape.ordinary hseen
    · exact .of_inactive htape.ordinary (congrArg Ctl.isHelp7 hst)
  case h7Bcksum =>
    obtain ⟨hblockfile, hopen, _⟩ := hs.ctl_at hst
    have hwithin : s.st.isHelp7 = true := by rw [hst]; rfl
    have hstay (x : TapeBits) : Help7Books { s with ses.bits := x } := hb.congr rfl rfl fun _ => hwithin
    refine tapeBytePeriod_gives (Q := Help7Books) (fun e => ?_) (fun c x hbyte => ?_) hstay h
    · exact hb.congr rfl rfl fun _ => hwithin
    · exact deliverBlockChecksum_books hbyte hwithin { hblockfile with } hopen (hstay x)
  all_goals apply hkeep
  case tEndTrailer => exact trailerMarker_books h
  case h7Seek => exact seekMarker_books h
  case tReadData => exact tapeBytePeriod_gives (Q := (·.books = s.books)) hfile (fun _ _ => deliverData_books) hbits h
  case tChecksum => exact tapeBytePeriod_gives (Q := (·.books = s.books)) hfile (fun _ _ => deliverChecksum_books) hbits h
  case h7ReadBhdr =>
    exact tapeBytePeriod_gives (Q := (·.books = s.books)) hblock (fun _ _ => deliverBlockHeader_books) hbits h
  case h7ReadBody =>
    exact tapeBytePeriod_gives (Q := (·.books = s.books)) hblock (fun _ _ => deliverBlockBody_books) hbits h
  all_goals obtain rfl := Host.Outcome.next.inj h
  case idle | done | error | dDeliver => rfl
  case tFindPilot => exact findPilot_books
  case tPilotFound => exact pilotSync1_books
  case tPilotFound2 => exact pilotSync0_books
  case tHdrMarker | tBodyMarker => exact strictMarker_books rfl
  case dFindHdr => exact findHeader_books
  case dFindData => exact findData_books
  case dReadHdr => exact diskBytePeriod_books rfl fun _ _ => deliverSectorHeader_books
  case dReadData => exact diskBytePeriod_books dataPeriodBad_books fun _ _ => deliverSectorData_books

/-- An accepted token that is no PERIOD leaves the fields of the bookkeeping alone. -/
theorem token_books {i : Instr} (hi : i.isToken = true) (hp : ∀ p, i ≠ .period p) (h : exec i s = .next t) :
    t.books = s.books := by
  cases i with
  | period p => exact absurd rfl (hp p)
  | eos =>
    obtain rfl := Host.Outcome.next.inj h
    split
    exacts [eosByState_books, rfl]
  | index | rsv => obtain rfl := Host.Outcome.next.inj h; split <;> rfl
  | nop | start | abort | next | trkclr | ckinit | ckbyte | csrrd | csrwr => cases hi

theorem Help7Books.execPeriod (hb : Help7Books s) (hs : Inv s) (hr : s.ready = true) (h : execPeriod p s = .next t) :
    Help7Books t := by
  have hcount : Help7Books s.countPeriod := hb.congr rfl rfl id
  unfold Machine.execPeriod at h
  rw [if_neg (by simp [hr])] at h
  split at h
  · obtain rfl := Host.Outcome.next.inj h
    exact hb.congr rfl rfl nofun
  · rename_i hp
    exact hcount.periodByState hs.countPeriod hp hr h

/-- The host's effects: START and ABORT end the file, NEXT belongs to the disk, and the others keep the session. -/
theorem Help7Books.host {c : Option Instr} (hb : Help7Books s) (h : HostEffect c s t)
    (hblk : t.cfg.h7blk = s.cfg.h7blk) : Help7Books t := by
  have hrefused : Help7Books s.refuse := hb.congr rfl rfl id
  rcases h with hkept | ⟨_, rfl⟩ | ⟨_, rfl⟩ | ⟨_, rfl⟩
  · refine hb.congr ?_ hblk fun h7 => hkept.st ▸ h7
    rw [State.books, hkept.ses, State.books]
  · unfold cmdStart
    split_ifs
    exacts [hrefused, .of_inactive rfl rfl, .of_inactive rfl rfl, .of_inactive rfl rfl]
  · exact .of_inactive rfl rfl
  · unfold cmdNext
    split_ifs
    exacts [hrefused, hb.congr rfl rfl nofun, hb.congr rfl rfl nofun]

/-- Every operation that leaves `H7BLK` alone keeps the bookkeeping. -/
theorem Help7Books.exec {i : Instr} (hb : Help7Books s) (hs : Inv s) (h : exec i s = .next t)
    (hblk : t.cfg.h7blk = s.cfg.h7blk) : Help7Books t := by
  cases htok : i.isToken with
  | false => exact hb.host (exec_host_effect htok h) hblk
  | true =>
    cases hr : s.ready with
    | false => exact token_held htok hr h ▸ hb
    | true =>
      by_cases hp : ∃ p, i = .period p
      · obtain ⟨p, rfl⟩ := hp
        exact hb.execPeriod hs hr h
      · have ht : Inv t := by
          obtain ⟨u, hu, hinv⟩ := hs.exec i
          exact Host.Outcome.next.inj (hu.symm.trans h) ▸ hinv
        have hcfg := (State.host_eq_iff.1 (token_frame htok h).1).1
        exact hb.token hs ht (token_books htok (fun p he => hp ⟨p, he⟩) h) hcfg (State.not_idle_of_ready hr)

theorem State.accept_h7blk (s : State) (w : OpWord) : (s.accept w).cfg.h7blk = s.cfg.h7blk := by cases w <;> rfl

theorem Help7Books.accept (hb : Help7Books s) (w : OpWord) : Help7Books (s.accept w) := by
  cases w <;> exact hb.congr rfl rfl id

end

/-- Settles O10: the bookkeeping is started by the header of a HELP7 file, moved by each accepted block, ended by START, ABORT and
reset, and every other rule leaves its fields alone. -/
theorem stepKeepsHelp7Books : Obligations.StepKeepsHelp7Books := by
  intro s t hs hb hstep hblk
  have hquiet : Help7Books s.endCycle := hb.congr rfl rfl id
  unfold step at hstep
  split at hstep
  · obtain rfl := Host.Outcome.next.inj hstep
    exact .of_inactive rfl rfl
  · exact Host.Outcome.next.inj hstep ▸ hquiet
  · split at hstep
    · exact (hb.accept _).exec (hs.accept _) hstep (hblk.trans (s.accept_h7blk _).symm)
    · exact Host.Outcome.next.inj hstep ▸ hquiet

end Sys2Proof.Machine

namespace Sys2Proof.Machine

/-! SUPPORT and certificates: the bytes of tape files (44_framing_tape.md), field by field: the header, the body and the checksum of
an ordinary file, then header, body and checksum of a HELP7 block. -/

/-! ## The file header -/

/-- A word of two bytes as a number, low byte first (20_memory.md R73). -/
theorem word16_toNat (hi lo : Byte) : (word16 hi lo).toNat = lo.toNat + 256 * hi.toNat := by
  have hlo := lo.isLt
  rw [word16, BitVec.toNat_append, Nat.shiftLeft_eq, Nat.mul_comm, ← Nat.two_pow_add_eq_or_of_lt hlo]
  exact Nat.add_comm _ _

section
variable {s t : State} {b : Byte} {idx : Word}

/-- The first 19 header bytes are stored only (44_framing_tape.md R199). -/
theorem deliverHeader_store (h : s.ses.byteidx.toNat < 19) : deliverHeader b idx s = .next (storeHeaderByte b s) := by
  have hroom : ¬Config.hdrLen ≤ s.ses.byteidx.toNat := by simp only [Config.hdrLen]; omega
  have hmore : (storeHeaderByte b s).ses.byteidx ≠ 20 := by
    show s.ses.byteidx + 1 ≠ 20
    bv_omega
  rw [deliverHeader, if_neg hroom]
  exact if_neg hmore

/-- The twentieth header byte completes the header (44_framing_tape.md R199). -/
theorem deliverHeader_last (h : s.ses.byteidx = 19) :
    deliverHeader b idx s = .next (headerDone idx (storeHeaderByte b s)) := by
  rw [deliverHeader, storeHeaderByte, h]
  rfl

theorem isHelp7_iff : isHelp7 s = true ↔ s.cfg.h7en = true ∧ s.ses.rcd.name[s.cfg.h7idx.toNat] = s.cfg.h7val := by
  rw [isHelp7, Bool.and_eq_true, beq_iff_eq]

/-- The geometry of a HELP7 file, given its number of blocks (44_framing_tape.md R207). -/
theorem help7Detect_eq {nb : Nat} (h : blockCount s.ses.rcd.length.toNat s.cfg.h7blk.toNat = nb) :
    help7Detect idx s =
      if nb = 0 ∨ 256 < nb then
        State.raiseFatal { s with ses.h7.h7act := true, ses.h7.remain := s.ses.rcd.length } .h7geom idx
      else
        { s with
          st := .h7Seek
          ses.h7.h7act := true
          ses.h7.remain := s.ses.rcd.length
          ses.h7.nb := BitVec.ofNat 9 nb
          ses.mark.ms := .lead
          ses.mark.zrun := 0 } := by
  subst h
  rfl

end

/-- Settles O37: the twentieth byte latches the record, and the record decides between HELP7 and the body marker. -/
theorem headerByte : Obligations.HeaderByte := by
  intro s b idx _
  refine ⟨deliverHeader_store, fun hlast => ?_⟩
  intro hb name s1 length nb
  have hlatch : latchHeader (storeHeaderByte b s) = s1 := by rw [storeHeaderByte, hlast]; rfl
  have hnb : blockCount s1.ses.rcd.length.toNat s1.cfg.h7blk.toNat = nb := congrArg (blockCount · _) (word16_toNat hb[3] hb[2])
  rw [deliverHeader_last hlast, headerDone, hlatch]
  exact congrArg _ (if_congr isHelp7_iff (help7Detect_eq hnb) rfl)

/-! ## The ordinary file -/

section
variable {s : State} {b : Byte} {idx : Word}

/-- The second checksum byte finalizes the record (44_framing_tape.md R203). -/
theorem deliverChecksum_second (h : s.ses.byteidx ≠ 0) :
    deliverChecksum b idx s = .next
      { s with
        st := .tEndTrailer
        ses.rcd.rck := word16 b (s.ses.rcd.rck.extractLsb' 0 8)
        ses.rcd.cck := s.ck
        ses.rcd.isFinal := true
        ses.rcd.valid := decide (word16 b (s.ses.rcd.rck.extractLsb' 0 8) = s.ck)
        ses.mark.ms := .lead
        ses.mark.mcnt := 0
        evt := s.evt ||| 0x008 } := by
  rw [deliverChecksum, if_neg h]
  rfl

end

/-- Settles O38: the body byte is stored at `BYTEIDX`, whether or not it is the last one. -/
theorem ordinaryFileBytes : Obligations.OrdinaryFileBytes := by
  intro s b idx
  refine ⟨⟨_, deliverData_next b idx s, ?_, fun a ha => deliverData_bufRead ha (deliverData_next b idx s), ?_⟩,
    deliverChecksum_first, deliverChecksum_second⟩
  · split <;> exact s.bufRead_bufWrite_same s.ses.byteidx b
  · split <;> rfl

/-! ## The HELP7 block header -/

section
variable {s : State} {b : Byte} {idx : Word}

/-- The first five block header bytes are stored and summed only (44_framing_tape.md R212). -/
theorem deliverBlockHeader_store (h : s.ses.byteidx.toNat < 5) :
    deliverBlockHeader b idx s = .next { storeHeaderByte b s with ck := sumUpd s.ck b } := by
  have hroom : ¬Config.hdrLen ≤ s.ses.byteidx.toNat := by simp only [Config.hdrLen]; omega
  have hmore : s.ses.byteidx + 1 ≠ 6 := by bv_omega
  rw [deliverBlockHeader, if_neg hroom]
  exact if_neg hmore

/-- The sixth block header byte has the block judged (44_framing_tape.md R212). -/
theorem deliverBlockHeader_last (h : s.ses.byteidx = 5) :
    deliverBlockHeader b idx s = blockHeaderDone idx { storeHeaderByte b s with ck := sumUpd s.ck b } := by
  rw [deliverBlockHeader, storeHeaderByte, h]
  rfl

/-- An accepted number has an element of `SEEN` while `NB` is at most 256. -/
theorem seenIndexOk_of_blockHeaderOk (hnb : s.ses.h7.nb.toNat ≤ 256) (hok : blockHeaderOk s = true) :
    seenIndexOk s = true := by
  obtain ⟨hone, hle, _⟩ := blockHeaderOk_iff.1 hok
  simp [seenIndexOk, Config.h7MaxBlk, hone, hle.trans hnb]

/-- The judgement of a latched block header (44_framing_tape.md R212, R213). -/
theorem blockHeaderDone_eq {u : State} (hu : latchBlockHeader s = u) (hnb : u.ses.h7.nb.toNat ≤ 256) :
    blockHeaderDone idx s = .next
      (if ¬blockHeaderOk u = true then (u.nonFatal .h7Hdr idx .h7fail).enterSeek
      else if u.ses.h7.seen.getLsbD (u.ses.h7.bnum.toNat - 1) = true then (u.nonFatal .h7Dup idx .h7dup).enterSeek
      else { u with st := .h7ReadBody, ses.byteidx := 0 }) := by
  dsimp only [blockHeaderDone]
  rw [hu]
  by_cases hok : blockHeaderOk u = true
  · rw [if_neg (by simp [hok]), if_neg (by simp [seenIndexOk_of_blockHeaderOk hnb hok]), if_neg (not_not_intro hok)]
    split <;> rfl
  · rw [if_pos (by simpa using hok), if_pos hok]

end

/-- Settles O39: the sixth byte latches number, length and owner from the stored bytes, and the judgement follows. -/
theorem blockHeaderByte : Obligations.BlockHeaderByte := by
  intro s b idx hnb
  refine ⟨deliverBlockHeader_store, fun hlast => ?_⟩
  intro bnum blen bown s1 expected
  have hlatch : latchBlockHeader { storeHeaderByte b s with ck := sumUpd s.ck b } = s1 := by
    have hold : ∀ i (hi : i < 5), (s.ses.hb.setIfInBounds 5 b)[i] = s.ses.hb[i] := fun i hi =>
      Vector.getElem_setIfInBounds_ne _ (by omega)
    have hnew : (s.ses.hb.setIfInBounds 5 b)[5] = b := Vector.getElem_setIfInBounds_self _
    rw [storeHeaderByte, hlast]
    simp [latchBlockHeader, word16, hold, hnew, s1, bnum, blen, bown]
  have hok : blockHeaderOk s1 = true ↔ 1 ≤ bnum.toNat ∧ bnum.toNat ≤ s.ses.h7.nb.toNat ∧ blen.toNat = expected
      ∧ (s.ses.h7.ownset = true → bown = s.ses.h7.owner) := by
    rw [blockHeaderOk_iff, not_and_not_right]
    rfl
  rw [deliverBlockHeader_last hlast, blockHeaderDone_eq hlatch hnb]
  exact congrArg _ (if_congr (not_congr hok) rfl rfl)

/-! ## The HELP7 block body -/

/-- A block body byte inside `BUF` never stops (44_framing_tape.md R214). -/
theorem deliverBlockBody_of_lt {s : State} {b : Byte} {idx : Word} (h : blockAddr s < 65536) :
    ∃ t, deliverBlockBody b idx s = .next t := by
  rw [deliverBlockBody, if_neg (show ¬Config.bufSize ≤ _ from Nat.not_le_of_lt h)]
  dsimp only
  split <;> exact ⟨_, rfl⟩

/-- Settles O40: the byte is stored at the address of the block, whether or not it is the block's last one. -/
theorem blockBodyByte : Obligations.BlockBodyByte := by
  intro s b idx haddr
  obtain ⟨t, ht⟩ := deliverBlockBody_of_lt (s := s) (b := b) (idx := idx) haddr
  refine ⟨t, ht, ?_, fun a ha => deliverBlockBody_bufRead ha ht, ?_⟩
  all_goals obtain ⟨_, rfl⟩ := deliverBlockBody_next ht
  · have hword : (BitVec.ofNat 16 (blockAddr s)).toNat = blockAddr s := Nat.mod_eq_of_lt haddr
    have hread := s.bufRead_bufWrite_same (BitVec.ofNat 16 (blockAddr s)) b
    rw [hword] at hread
    split <;> exact hread
  · split <;> rfl

/-! ## The HELP7 block checksum -/

section
variable {s : State} {b : Byte} {idx : Word}

theorem deliverBlockChecksum_first (h : s.ses.byteidx = 0) :
    deliverBlockChecksum b idx s = .next { s with ses.h7.bck := b.zeroExtend 16, ses.byteidx := 1 } := if_pos h

/-- The second byte completes `BCK` and compares it (44_framing_tape.md R215). -/
theorem deliverBlockChecksum_second (h : s.ses.byteidx ≠ 0) {bck : Half}
    (hbck : word16 b (s.ses.h7.bck.extractLsb' 0 8) = bck) :
    deliverBlockChecksum b idx s =
      if bck = s.ck then blockAccepted { s with ses.h7.bck := bck }
      else .next (State.nonFatal { s with ses.h7.bck := bck } .h7Cksum idx .h7fail).enterSeek := by
  subst hbck
  exact if_neg h

/-- The accepted block in the books: seen, subtracted, its owner the file's (44_framing_tape.md R216). -/
def markAccepted (s : State) : State :=
  { s with
    ses.h7.seen := s.ses.h7.seen ||| BitVec.twoPow 256 (s.ses.h7.bnum.toNat - 1)
    ses.h7.remain := s.ses.h7.remain - s.ses.h7.blen
    ses.h7.owner := if s.ses.h7.ownset then s.ses.h7.owner else s.ses.h7.bown
    ses.h7.ownset := true
    evt := s.evt ||| 0x080 }

theorem blockAccepted_eq {u : State} (hu : markAccepted s = u) (hone : 1 ≤ s.ses.h7.bnum.toNat)
    (hle : s.ses.h7.bnum.toNat ≤ 256) :
    blockAccepted s = .next (if u.ses.h7.remain = 0 then help7Finalize u else u.enterSeek) := by
  subst hu
  have hseen : seenIndexOk s = true := by simp [seenIndexOk, Config.h7MaxBlk, hone, hle]
  rw [blockAccepted, if_neg (by simp [hseen])]
  exact (apply_ite Host.Outcome.next _ _ _).symm

/-- The finished file, register by register (44_framing_tape.md R217). -/
theorem help7Finalize_eq {sum : Half} (h : tapeChecksum (fileBody s) = sum) :
    help7Finalize s = { s with
      st := .done
      ck := sum
      ses.rcd.rck := s.ses.h7.owner
      ses.rcd.cck := sum
      ses.rcd.isFinal := true
      ses.rcd.valid := decide (s.ses.h7.owner = sum)
      evt := s.evt ||| 0x009 } := by
  subst h
  have hflags : s.evt ||| Flag.record.mask ||| Flag.done.mask = s.evt ||| 0x009 := BitVec.or_assoc _ _ _
  rw [← hflags]
  rfl

end

/-- Settles O41: the second byte discards the block or accepts it, and the last accepted block finalizes the file. -/
theorem blockChecksumByte : Obligations.BlockChecksumByte := by
  intro s b idx hone hle
  refine ⟨deliverBlockChecksum_first, fun hsecond => ?_⟩
  intro bck owner sum s2
  have hmark : markAccepted { s with ses.h7.bck := bck } = s2 := rfl
  have hflags : s2.evt ||| 0x009 = s.evt ||| 0x089 := BitVec.or_assoc _ _ _
  have hfinal := help7Finalize_eq (s := s2) (sum := sum) rfl
  rw [hflags] at hfinal
  rw [deliverBlockChecksum_second (bck := bck) hsecond rfl]
  by_cases hck : bck = s.ck
  · rw [if_pos hck, if_neg (not_not_intro hck), blockAccepted_eq hmark hone hle, hfinal]
    rfl
  · rw [if_neg hck, if_pos hck]
    rfl

end Sys2Proof.Machine

namespace Sys2Proof.Machine

/-! SUPPORT and certificates: the bytes of a disk sector (45_framing_disk.md), field by field: the header, the data, then the bitmap
`SECT_OK` of the sectors delivered as valid. -/

/-! ## The sector header -/

section
variable {s u : State} {b : Byte} {idx : Word}

theorem deliverSectorHeader_magicBad (h : s.ses.byteidx = 0) (hb : b ≠ 0xFE) :
    deliverSectorHeader b idx s = (s.nonFatal .hdrMagic idx .hdrbad).resumeFindHdr :=
  if_pos ⟨congrArg BitVec.toNat h, hb⟩

/-- The mark and the four fields are stored and go into the CRC (45_framing_disk.md R231). -/
theorem deliverSectorHeader_field {i : Half} (h : s.ses.byteidx = i) (hle : i.toNat ≤ 4) (hmark : i ≠ 0 ∨ b = 0xFE) :
    deliverSectorHeader b idx s =
      { storeSectorField i.toNat b s with ck := crcUpd s.ck b, ses.byteidx := s.ses.byteidx + 1 } := by
  subst h
  have hgood : ¬(s.ses.byteidx.toNat = 0 ∧ b ≠ 0xFE) := fun ⟨hzero, hb⟩ =>
    hmark.elim (fun hi => hi (BitVec.eq_of_toNat_eq hzero)) hb
  exact (if_neg hgood).trans (if_pos hle)

/-- The high CRC byte (45_framing_disk.md R231). -/
theorem deliverSectorHeader_crcHigh (h : s.ses.byteidx = 5) :
    deliverSectorHeader b idx s = { s with ses.sec.hcrcRd := word16 b 0, ses.byteidx := 6 } := by
  rw [deliverSectorHeader, h]
  rfl

/-- The seventh byte is the low CRC byte (45_framing_disk.md R235). -/
theorem deliverSectorHeader_last (h : s.ses.byteidx = 6) : deliverSectorHeader b idx s = headerCrcStep b idx s := by
  rw [deliverSectorHeader, h]
  rfl

/-- The verdict on a latched header: first its CRC, then its size (45_framing_disk.md R235, R236). -/
theorem headerCrcStep_eq (hu : latchHeaderCrc b s = u) :
    headerCrcStep b idx s =
      if u.ses.sec.hdrCrcOk = true then headerSizeStep idx u
      else if s.cfg.keepBad = true then headerSizeStep idx (u.nonFatal .hdrCrc idx .hdrbad)
      else (u.nonFatal .hdrCrc idx .hdrbad).resumeFindHdr := by
  subst hu
  rfl

end

/-- Settles O47: each byte has its rule by `BYTEIDX`, and the seventh judges the CRC before the size. -/
theorem sectorHeaderByte : Obligations.SectorHeaderByte := by
  intro s b idx search fed
  refine ⟨fun h => ?_, fun h => deliverSectorHeader_field h (by decide) (.inl (by decide)),
    fun h => deliverSectorHeader_field h (by decide) (.inl (by decide)),
    fun h => deliverSectorHeader_field h (by decide) (.inl (by decide)),
    fun h => deliverSectorHeader_field h (by decide) (.inl (by decide)), deliverSectorHeader_crcHigh, fun h => ?_⟩
  · by_cases hb : b = 0xFE
    · rw [if_pos hb]
      exact deliverSectorHeader_field h (by decide) (.inr hb)
    · rw [if_neg hb]
      exact deliverSectorHeader_magicBad h hb
  · intro rd size s1 s2
    have hlatch : latchHeaderCrc b s = s1 := rfl
    rw [deliverSectorHeader_last h, headerCrcStep_eq hlatch]
    by_cases hck : rd = s.ck
    · have hok : s1.ses.sec.hdrCrcOk = true := decide_eq_true hck
      have hs2 : s2 = s1 := if_pos hck
      rw [if_pos hok, if_neg fun hbad => hbad.1 hck, hs2]
      rfl
    · have hbad : ¬s1.ses.sec.hdrCrcOk = true := fun hok => hck (of_decide_eq_true hok)
      have hs2 : s2 = s1.nonFatal .hdrCrc idx .hdrbad := if_neg hck
      rw [if_neg hbad, hs2]
      cases hkeep : s.cfg.keepBad with
      | false => rw [if_neg Bool.false_ne_true, if_pos ⟨hck, rfl⟩]; rfl
      | true => rw [if_pos rfl, if_neg fun hdrop => Bool.noConfusion hdrop.2]; rfl

/-! ## The data field -/

section
variable {s u : State} {b : Byte} {idx : Word}

theorem deliverSectorData_mark (h : s.ses.byteidx = 0) : deliverSectorData b idx s = dataMark b idx s :=
  if_pos (congrArg BitVec.toNat h)

/-- A payload byte is stored and goes into the CRC (45_framing_disk.md R240). -/
theorem deliverSectorData_payload (hpos : 1 ≤ s.ses.byteidx.toNat) (hle : s.ses.byteidx.toNat ≤ s.ses.sec.size.toNat) :
    deliverSectorData b idx s = dataPayload b s :=
  (if_neg (by omega)).trans (if_pos hle)

/-- The high CRC byte (45_framing_disk.md R237). -/
theorem deliverSectorData_crcHigh (h : s.ses.byteidx.toNat = s.ses.sec.size.toNat + 1) :
    deliverSectorData b idx s = { s with ses.sec.dcrcRd := word16 b 0, ses.byteidx := s.ses.byteidx + 1 } :=
  (if_neg (by omega)).trans ((if_neg (by omega)).trans (if_pos h))

/-- The low CRC byte ends the field (45_framing_disk.md R241). -/
theorem deliverSectorData_last (h : s.ses.byteidx.toNat = s.ses.sec.size.toNat + 2) :
    deliverSectorData b idx s = dataCrcDone b idx s :=
  (if_neg (by omega)).trans ((if_neg (by omega)).trans (if_neg (by omega)))

/-- The verdict on a completed sector (45_framing_disk.md R241, R243). -/
theorem dataCrcDone_eq (hu : recordSector (latchDataCrc b s) = u) :
    dataCrcDone b idx s =
      if u.ses.sec.svalid = true ∨ u.cfg.keepBad = true then
        if u.ses.sec.dataCrcOk = true then deliverSector u else (deliverSector u).nonFatal .dataCrc idx .databad
      else (u.nonFatal .dataCrc idx .databad).resumeFindHdr := by
  subst hu
  exact if_congr Bool.or_eq_true_iff rfl rfl

/-- The bitmap is all that a completed sector writes before its delivery (45_framing_disk.md R250). -/
theorem recordSector_eq_setSectOk (s : State) : recordSector s =
    { s with sectOk := if s.ses.sec.svalid = true ∧ s.ses.sec.number.toNat < 32 then
        s.sectOk ||| BitVec.twoPow 32 s.ses.sec.number.toNat else s.sectOk } := by
  unfold recordSector
  split_ifs with hrec hnot hyes
  exacts [rfl, absurd hrec hnot, absurd hyes hrec, rfl]

theorem dataPayload_addr (hpos : 1 ≤ s.ses.byteidx.toNat) :
    (s.ses.byteidx - 1).toNat = s.ses.byteidx.toNat - 1 := by bv_omega

end

/-- Settles O48: each byte has its rule by `BYTEIDX`, the payload lands at `BYTEIDX - 1`, and the last byte gives the verdict. -/
theorem sectorDataByte : Obligations.SectorDataByte := by
  intro s b idx search
  refine ⟨fun h => ?_, fun hpos hle => ?_, deliverSectorData_crcHigh, fun h => ?_⟩
  · rw [deliverSectorData_mark h]
    exact ite_not ..
  · rw [deliverSectorData_payload hpos hle, ← dataPayload_addr hpos]
    exact ⟨s.bufRead_bufWrite_same _ b, fun a => s.bufRead_bufWrite_other _ b, rfl⟩
  · intro rd valid s1 delivered
    have hlatch : recordSector (latchDataCrc b s) = s1 := recordSector_eq_setSectOk _
    have hck : s1.ses.sec.dataCrcOk = true ↔ rd = s.ck := decide_eq_true_iff
    rw [deliverSectorData_last h, dataCrcDone_eq hlatch]
    exact if_congr Iff.rfl (if_congr hck rfl rfl) rfl

/-! ## The bitmap of valid sectors -/

/-- `t` has delivered a valid sector and recorded it in the bitmap, which was `m` (45_framing_disk.md R241, R250). -/
structure SectorRecorded (m : BitVec 32) (t : State) : Prop where
  st : t.st = .dDeliver
  svalid : t.ses.sec.svalid = true
  number : t.ses.sec.number.toNat < 32
  sectOk : t.sectOk = m ||| BitVec.twoPow 32 t.ses.sec.number.toNat

section
variable {s t : State} {p : Half} {b : Byte} {idx : Word}

/-! ### The rule that writes it -/

theorem recordSector_recorded (hv : s.ses.sec.svalid = true) (hn : s.ses.sec.number.toNat < 32) :
    SectorRecorded s.sectOk (deliverSector (recordSector s)) := by
  rw [recordSector_eq_setSectOk, if_pos ⟨hv, hn⟩]
  exact ⟨rfl, hv, hn, rfl⟩

theorem recordSector_of_not (h : ¬(s.ses.sec.svalid = true ∧ s.ses.sec.number.toNat < 32)) : recordSector s = s := if_neg h

/-- A sector is valid only if its data CRC is good, so that its delivery raises no event (43_checksum.md R185). -/
theorem dataCrcDone_of_valid (hv : (latchDataCrc b s).ses.sec.svalid = true) :
    dataCrcDone b idx s = deliverSector (recordSector (latchDataCrc b s)) := by
  have hck : (latchDataCrc b s).ses.sec.dataCrcOk = true := (Bool.and_eq_true_iff.1 hv).2
  rw [dataCrcDone_eq (recordSector_eq_setSectOk _), if_pos (.inl hv), if_pos hck, ← recordSector_eq_setSectOk]

/-- The last byte of a sector records it or leaves the bitmap alone. -/
theorem dataCrcDone_sectOk :
    (dataCrcDone b idx s).sectOk = s.sectOk ∨ SectorRecorded s.sectOk (dataCrcDone b idx s) := by
  by_cases hrec : (latchDataCrc b s).ses.sec.svalid = true ∧ (latchDataCrc b s).ses.sec.number.toNat < 32
  · obtain ⟨hv, hn⟩ := hrec
    rw [dataCrcDone_of_valid hv]
    exact .inr (recordSector_recorded hv hn)
  · left
    rw [dataCrcDone_eq (recordSector_of_not hrec)]
    split_ifs <;> rfl

theorem deliverSectorData_sectOk :
    (deliverSectorData b idx s).sectOk = s.sectOk ∨ SectorRecorded s.sectOk (deliverSectorData b idx s) := by
  dsimp only [deliverSectorData, dataMark]
  split_ifs
  exacts [.inl rfl, .inl rfl, .inl rfl, .inl rfl, dataCrcDone_sectOk]

theorem dataPeriodBad_sectOk : (dataPeriodBad idx s).sectOk = s.sectOk := by
  dsimp only [dataPeriodBad]
  split_ifs <;> rfl

/-- A period in `D_READ_DATA` completes at most one byte, so that it records at most one sector. -/
theorem dataPeriod_sectOk (h : diskBytePeriod dataPeriodBad deliverSectorData p idx s = t) :
    t.sectOk = s.sectOk ∨ SectorRecorded s.sectOk t := by
  subst h
  unfold diskBytePeriod
  split
  · exact .inl dataPeriodBad_sectOk
  next c _ =>
    rcases pushRaw_one_byte (idx := idx) (fun _ _ => deliverSectorData_rawb) (rawBitsOf c) s (rawBitsOf_length c) with
      ⟨x, hbits⟩ | ⟨c, x, y, hbyte⟩
    · rw [hbits]; exact .inl rfl
    · rw [hbyte]
      exact deliverSectorData_sectOk.imp id fun ⟨hst, hv, hn, hmap⟩ => ⟨hst, hv, hn, hmap⟩

/-! ### Rules that leave it alone -/

theorem findPilot_sectOk : (findPilot p s).sectOk = s.sectOk := by
  unfold findPilot pilotAccumulate
  split_ifs <;> rfl

theorem pilotSync1_sectOk : (pilotSync1 p idx s).sectOk = s.sectOk := by
  unfold pilotSync1
  split_ifs <;> rfl

theorem pilotSync0_sectOk : (pilotSync0 p idx s).sectOk = s.sectOk := by
  unfold pilotSync0
  split_ifs <;> rfl

theorem strictMarker_sectOk {done : State → State} (hdone : (done s).sectOk = s.sectOk) :
    (strictMarker done p idx s).sectOk = s.sectOk := by
  unfold strictMarker
  split
  · unfold strictLead; split_ifs <;> rfl
  · unfold strictBody; split <;> rfl
  · unfold strictFinal; split_ifs <;> rfl
  · unfold strictSync1; split_ifs <;> rfl
  · unfold strictSync0; split_ifs; exacts [rfl, hdone]

theorem seekMarker_sectOk (h : seekMarker p s = .next t) : t.sectOk = s.sectOk := by
  rcases seekMarker_next h with ⟨_, rfl⟩ | ⟨_, rfl⟩ | ⟨_, rfl⟩
  · unfold seekLead; split_ifs <;> rfl
  · unfold seekSync1; split <;> rfl
  · unfold seekSync0; split <;> rfl

theorem trailerMarker_sectOk (h : trailerMarker p s = .next t) : t.sectOk = s.sectOk := by
  rcases trailerMarker_next h with ⟨_, rfl⟩ | ⟨_, rfl⟩ | ⟨_, rfl⟩
  · unfold trailerLead; split <;> rfl
  · rfl
  · rfl

theorem headerDone_sectOk : (headerDone idx s).sectOk = s.sectOk := by
  dsimp only [headerDone, help7Detect]
  split_ifs <;> rfl

theorem deliverHeader_sectOk (h : deliverHeader b idx s = .next t) : t.sectOk = s.sectOk := by
  obtain ⟨_, ⟨_, rfl⟩ | ⟨_, rfl⟩⟩ := deliverHeader_next h
  exacts [headerDone_sectOk, rfl]

theorem deliverData_sectOk (h : deliverData b idx s = .next t) : t.sectOk = s.sectOk := by
  rw [deliverData_next] at h
  obtain rfl := Host.Outcome.next.inj h
  split <;> rfl

theorem deliverChecksum_sectOk (h : deliverChecksum b idx s = .next t) : t.sectOk = s.sectOk := by
  dsimp only [deliverChecksum] at h
  split at h <;> obtain rfl := Host.Outcome.next.inj h <;> rfl

theorem deliverBlockHeader_sectOk (h : deliverBlockHeader b idx s = .next t) : t.sectOk = s.sectOk := by
  obtain ⟨_, ⟨_, hdone⟩ | ⟨_, rfl⟩⟩ := deliverBlockHeader_next h
  · rcases blockHeaderDone_next hdone with ⟨_, rfl⟩ | ⟨_, _, ⟨_, rfl⟩ | ⟨_, rfl⟩⟩ <;> rfl
  · rfl

theorem deliverBlockBody_sectOk (h : deliverBlockBody b idx s = .next t) : t.sectOk = s.sectOk := by
  obtain ⟨_, rfl⟩ := deliverBlockBody_next h
  split <;> rfl

theorem deliverBlockChecksum_sectOk (h : deliverBlockChecksum b idx s = .next t) : t.sectOk = s.sectOk := by
  rcases deliverBlockChecksum_next h with ⟨_, rfl⟩ | ⟨_, u, rfl, ⟨_, hacc⟩ | ⟨_, rfl⟩⟩
  · rfl
  · obtain ⟨_, v, rfl, ⟨_, rfl⟩ | ⟨_, rfl⟩⟩ := blockAccepted_next hacc <;> rfl
  · rfl

theorem findHeader_sectOk : (findHeader p s).sectOk = s.sectOk := by
  dsimp only [findHeader]
  split <;> rfl

theorem findData_sectOk : (findData p idx s).sectOk = s.sectOk := by
  dsimp only [findData]
  split_ifs <;> rfl

theorem headerSizeStep_sectOk : (headerSizeStep idx s).sectOk = s.sectOk := by
  unfold headerSizeStep
  split <;> rfl

theorem deliverSectorHeader_sectOk : (deliverSectorHeader b idx s).sectOk = s.sectOk := by
  obtain ⟨c, _, hfield⟩ := storeSectorField_eq s.ses.byteidx.toNat b s
  dsimp only [deliverSectorHeader, headerCrcStep]
  rw [hfield]
  split_ifs
  exacts [rfl, rfl, rfl, headerSizeStep_sectOk, headerSizeStep_sectOk, rfl]

theorem headerPeriod_sectOk : (diskBytePeriod headerPeriodBad deliverSectorHeader p idx s).sectOk = s.sectOk := by
  unfold diskBytePeriod
  split
  · rfl
  · exact pushRaw_keeps (P := fun u => u.sectOk = s.sectOk) (fun _ _ hu _ => hu)
      (fun _ _ hu _ => deliverSectorHeader_sectOk.trans hu) _ s rfl

theorem eosByState_sectOk : (eosByState s).sectOk = s.sectOk := by
  have hsearch : (diskEosSearch s).sectOk = s.sectOk := by
    unfold diskEosSearch; split_ifs <;> rfl
  have hdata : (diskEosData s).sectOk = s.sectOk := by
    dsimp only [diskEosData]; split_ifs <;> rfl
  cases hst : s.st <;> simp only [eosByState, hst]
  case dFindHdr | dReadHdr | dFindData => exact hsearch
  case dReadData => exact hdata
  all_goals rfl

/-! ### Tokens -/

/-- After the common step, a period records a sector in `D_READ_DATA` or leaves the bitmap alone. -/
theorem periodByState_sectOk (h : periodByState p idx s = .next t) :
    t.sectOk = s.sectOk ∨ (s.st = .dReadData ∧ SectorRecorded s.sectOk t) := by
  have hfile : ∀ e, (fileViolation e idx s).sectOk = s.sectOk := fun _ => rfl
  have hblock : ∀ e, (help7Violation e idx s).sectOk = s.sectOk := fun _ => rfl
  have hbits : ∀ x, ({ s with ses.bits := x } : State).sectOk = s.sectOk := fun _ => rfl
  cases hst : s.st <;> simp only [periodByState, hst] at h
  case dReadData => exact (dataPeriod_sectOk (Host.Outcome.next.inj h)).imp id fun hrec => ⟨rfl, hrec⟩
  all_goals left
  case tEndTrailer => exact trailerMarker_sectOk h
  case h7Seek => exact seekMarker_sectOk h
  case tReadHdr => exact tapeBytePeriod_gives (Q := (·.sectOk = s.sectOk)) hfile (fun _ _ => deliverHeader_sectOk) hbits h
  case tReadData => exact tapeBytePeriod_gives (Q := (·.sectOk = s.sectOk)) hfile (fun _ _ => deliverData_sectOk) hbits h
  case tChecksum =>
    exact tapeBytePeriod_gives (Q := (·.sectOk = s.sectOk)) hfile (fun _ _ => deliverChecksum_sectOk) hbits h
  case h7ReadBhdr =>
    exact tapeBytePeriod_gives (Q := (·.sectOk = s.sectOk)) hblock (fun _ _ => deliverBlockHeader_sectOk) hbits h
  case h7ReadBody =>
    exact tapeBytePeriod_gives (Q := (·.sectOk = s.sectOk)) hblock (fun _ _ => deliverBlockBody_sectOk) hbits h
  case h7Bcksum =>
    exact tapeBytePeriod_gives (Q := (·.sectOk = s.sectOk)) hblock (fun _ _ => deliverBlockChecksum_sectOk) hbits h
  all_goals obtain rfl := Host.Outcome.next.inj h
  case idle | done | error | dDeliver => rfl
  case tFindPilot => exact findPilot_sectOk
  case tPilotFound => exact pilotSync1_sectOk
  case tPilotFound2 => exact pilotSync0_sectOk
  case tHdrMarker | tBodyMarker => exact strictMarker_sectOk rfl
  case dFindHdr => exact findHeader_sectOk
  case dFindData => exact findData_sectOk
  case dReadHdr => exact headerPeriod_sectOk

theorem execPeriod_sectOk (h : execPeriod p s = .next t) :
    t.sectOk = s.sectOk ∨ (s.st = .dReadData ∧ SectorRecorded s.sectOk t) := by
  unfold execPeriod at h
  split_ifs at h
  · obtain rfl := Host.Outcome.next.inj h; exact .inl rfl
  · obtain rfl := Host.Outcome.next.inj h; exact .inl rfl
  · exact periodByState_sectOk (s := s.countPeriod) h

/-! ### The host -/

/-- What the host does to the bitmap: TRKCLR may clear it (46_commands.md R268). -/
def BitmapHostEffect (c : Option Instr) (s t : State) : Prop :=
  t.sectOk = s.sectOk ∨ (c = some .trkclr ∧ t.sectOk = 0)

theorem cmdTrkclr_sectOk (s : State) : (cmdTrkclr s).sectOk = s.sectOk ∨ (cmdTrkclr s).sectOk = 0 := by
  unfold cmdTrkclr
  split
  exacts [.inl rfl, .inr rfl]

theorem cmdStart_sectOk (s : State) : (cmdStart s).sectOk = s.sectOk := by
  unfold cmdStart
  split_ifs <;> rfl

theorem cmdNext_sectOk (s : State) : (cmdNext s).sectOk = s.sectOk := by
  unfold cmdNext
  split_ifs <;> rfl

theorem cmdCkinit_sectOk (alg : Bool) (s : State) : (cmdCkinit alg s).sectOk = s.sectOk := by
  unfold cmdCkinit
  split <;> rfl

theorem cmdCkbyte_sectOk (b : Byte) (s : State) : (cmdCkbyte b s).sectOk = s.sectOk := by
  unfold cmdCkbyte
  split <;> rfl

theorem commandWrite_sectOk (w : Word) (s : State) :
    BitmapHostEffect (decodeCommand w).toOption s (commandWrite w s) := by
  rcases commandWrite_cases w s with
    ⟨_, he⟩ | ⟨_, he⟩ | ⟨_, he⟩ | ⟨_, he⟩ | ⟨hd, he⟩ | ⟨alg, _, he⟩ | ⟨b, _, he⟩ | ⟨_, _, he⟩ <;> rw [he]
  · exact .inl rfl
  · exact .inl (cmdStart_sectOk s)
  · exact .inl rfl
  · exact .inl (cmdNext_sectOk s)
  · rw [hd]; exact (cmdTrkclr_sectOk s).imp id fun hclear => ⟨rfl, hclear⟩
  · exact .inl (cmdCkinit_sectOk alg s)
  · exact .inl (cmdCkbyte_sectOk b s)
  · exact .inl rfl

theorem writeAt_sectOk (addr : Byte) (v : Word) (s : State) :
    BitmapHostEffect (Instr.csrwr addr v).command s (writeAt addr v s) := by
  by_cases hcmd : csrAt addr = some .cmd
  · have hwrite : writeAt addr v s = commandWrite v s := by simp [writeAt, hcmd, writeCsr]
    rw [Instr.command, if_pos hcmd, hwrite]
    exact commandWrite_sectOk v s
  · left
    have hkept := congrArg State.sectOk (writeAt_engine hcmd v s)
    exact hkept

/-- Every operation that is no token keeps the bitmap or is TRKCLR. -/
theorem exec_host_sectOk {i : Instr} (hi : i.isToken = false) (h : exec i s = .next t) : BitmapHostEffect i.command s t := by
  cases i with
  | period | eos | index | rsv => cases hi
  | nop | abort => obtain rfl := Host.Outcome.next.inj h; exact .inl rfl
  | start => obtain rfl := Host.Outcome.next.inj h; exact .inl (cmdStart_sectOk s)
  | next => obtain rfl := Host.Outcome.next.inj h; exact .inl (cmdNext_sectOk s)
  | trkclr => obtain rfl := Host.Outcome.next.inj h; exact (cmdTrkclr_sectOk s).imp id fun hclear => ⟨rfl, hclear⟩
  | ckinit alg => obtain rfl := Host.Outcome.next.inj h; exact .inl (cmdCkinit_sectOk alg s)
  | ckbyte b => obtain rfl := Host.Outcome.next.inj h; exact .inl (cmdCkbyte_sectOk b s)
  | csrrd addr =>
    obtain rfl := Host.Outcome.next.inj h
    rw [readEffect_eq]
    exact .inl rfl
  | csrwr addr v => obtain rfl := Host.Outcome.next.inj h; exact writeAt_sectOk addr v s

end

/-- Settles O55: of the host's operations TRKCLR alone reaches the bitmap, and of the rules of a token the verdict on a completed
sector alone, which a period of `D_READ_DATA` reaches at most once. -/
theorem sectorBitmapChanges : Obligations.SectorBitmapChanges := by
  intro i s t h
  cases htok : i.isToken with
  | false => exact (exec_host_sectOk htok h).imp id .inl
  | true =>
    cases i with
    | period p =>
      rcases execPeriod_sectOk h with hkept | ⟨hst, hdeliver, hv, hn, hmap⟩
      exacts [.inl hkept, .inr (.inr ⟨⟨p, rfl⟩, hst, hdeliver, hv, hn, hmap⟩)]
    | eos =>
      left
      obtain rfl := Host.Outcome.next.inj h
      split
      exacts [eosByState_sectOk, rfl]
    | index | rsv => left; obtain rfl := Host.Outcome.next.inj h; split <;> rfl
    | nop | start | abort | next | trkclr | ckinit | ckbyte | csrrd | csrwr => cases htok

end Sys2Proof.Machine

namespace Sys2Proof.Machine

/-! # Commands and tokens (46_commands.md) -/

section
variable {s : State}

/-! ## Where a command is accepted, and what it does there -/

/-- What START refuses as a configuration (46_commands.md R262). -/
theorem ConfigRegs.illegal_iff {c : ConfigRegs} : c.illegal = true ↔
    c.profile = 1 ∨ c.profile = 3 ∨ (c.profile = 0 ∧ c.h7en = true ∧ c.h7blk = 0) := by
  simp [ConfigRegs.illegal, or_assoc, and_assoc]

/-- START while idle: the session is cleared, then the configuration judged (46_commands.md R262). -/
theorem cmdStart_idle (h : s.st.isIdle = true) : cmdStart s =
    if s.cfg.illegal then State.raiseFatal { s.clearSession with st := .idle } .cfg 0
    else if s.cfg.profile = 0 then { s.clearSession with st := .tFindPilot }
    else { s.clearSession with st := .dFindHdr } := by
  simp [cmdStart, h]

theorem cmdTrkclr_idle (h : s.st.isIdle = true) : cmdTrkclr s = { s with sectOk := 0, rev := 0, nbad := 0 } := by
  simp [cmdTrkclr, h]

theorem cmdNext_deliver (h : s.st = .dDeliver) :
    cmdNext s = if s.ses.eosp || s.complete then s.finish else s.resumeFindHdr :=
  if_neg (not_not_intro h)

/-- The track ends at the end of the stream or when every expected sector was read (46_commands.md R266). -/
theorem trackEnds_iff : (s.ses.eosp || s.complete) = true ↔
    s.ses.eosp = true ∨ (s.cfg.expect ≠ 0 ∧ s.sectOk &&& s.cfg.expect = s.cfg.expect) := by
  rw [Bool.or_eq_true, State.complete_iff]

/-! ## Where a command is refused (46_commands.md R257) -/

theorem State.isIdle_eq_false (hidle : s.st ≠ .idle) (hdone : s.st ≠ .done) (herror : s.st ≠ .error) :
    s.st.isIdle = false := by
  simp [Ctl.isIdle, hidle, hdone, herror]

theorem cmdTrkclr_refused (h : s.st.isIdle = false) : cmdTrkclr s = s.refuse := by simp [cmdTrkclr, h]

theorem cmdCkinit_refused (alg : Bool) (h : s.st.isIdle = false) : cmdCkinit alg s = s.refuse := by simp [cmdCkinit, h]

theorem cmdCkbyte_refused (b : Byte) (h : s.st.isIdle = false) : cmdCkbyte b s = s.refuse := by simp [cmdCkbyte, h]

/-! ## Commands written to `CMD` (46_commands.md R256) -/

theorem exec_csrwr_cmd {addr : Byte} (h : addr.extractLsb' 2 6 = 1) (v : Word) (s : State) :
    exec (.csrwr addr v) s = .next (commandWrite v s) :=
  congrArg Host.Outcome.next (writeAt_of_csrAt (csrAt_eq_some_iff.2 h : csrAt addr = some .cmd) v)

/-- A written word does what the decoder reads it as, and is refused where the decoder rejects it. -/
theorem commandWrite_eq (w : Word) (s : State) : Host.Outcome.next (commandWrite w s) =
    match decodeCommand w with
    | .ok i => exec i s
    | .error _ => .next s.refuse := by
  rcases commandWrite_cases w s with
    ⟨hd, he⟩ | ⟨hd, he⟩ | ⟨hd, he⟩ | ⟨hd, he⟩ | ⟨hd, he⟩ | ⟨alg, hd, he⟩ | ⟨b, hd, he⟩ | ⟨r, hd, he⟩ <;>
    rw [hd, he] <;> rfl

/-! ## Tokens while `READY` is 1 -/

theorem exec_index_of_ready (h : s.ready = true) :
    exec .index s = .next (State.setFlag { s with rev := satInc s.rev } .index) :=
  congrArg Host.Outcome.next (if_pos h)

theorem exec_rsv_of_ready (h : s.ready = true) : exec .rsv s = .next (s.raiseFatal .token s.ses.pos) :=
  congrArg Host.Outcome.next (if_pos h)

theorem exec_zeroPeriod_of_ready (h : s.ready = true) :
    exec (.period 0) s = .next (s.countPeriod.raiseFatal .zero s.ses.pos) := by
  simp [exec, execPeriod, h]

theorem exec_eos_of_ready (h : s.ready = true) : exec .eos s = .next (eosByState s) :=
  congrArg Host.Outcome.next (if_pos h)

/-! ## EOS by control state (46_commands.md R270) -/

theorem State.ready_of_isTape (h : s.st.isTape = true) : s.ready = true := by
  obtain ⟨hidle, hdeliver, _, _⟩ := Ctl.not_idle_of_tape h
  simp [State.ready, Ctl.isHold, hidle, hdeliver]

theorem eosByState_tape (ht : s.st.isTape = true) (hpilot : s.st ≠ .tFindPilot) (htrailer : s.st ≠ .tEndTrailer) :
    eosByState s = s.raiseFatal .eos s.ses.pos := by
  cases hst : s.st
  case tFindPilot | tEndTrailer => contradiction
  case idle | done | error | dFindHdr | dReadHdr | dFindData | dReadData | dDeliver => rw [hst] at ht; cases ht
  all_goals simp only [eosByState, hst]

theorem exec_eos_search (h : s.st = .dFindHdr ∨ s.st = .dReadHdr ∨ s.st = .dFindData) :
    exec .eos s = .next (diskEosSearch s) := by
  rcases h with hst | hst | hst <;> rw [exec_eos_of_ready (State.ready_of_st hst rfl), eosByState, hst]

theorem exec_eos_data (hst : s.st = .dReadData) : exec .eos s = .next (diskEosData s) := by
  rw [exec_eos_of_ready (State.ready_of_st hst rfl), eosByState, hst]

/-- A sector cut off by the end of the stream is reported, then kept in part or dropped (45_framing_disk.md R246). -/
theorem diskEosData_eq {u : State} (hu : s.nonFatal .dataEos s.ses.pos .databad = u) : diskEosData s =
    if u.cfg.keepBad = true ∧ u.ses.byteidx ≠ 0 then partialDelivery { u with ses.eosp := true } else u.finish := by
  subst hu
  exact if_congr keepsPartial_iff rfl rfl

end

/-! ## The statements -/

/-- Settles O14: the meaning of NOP answers the state it is given. -/
theorem nopChangesNothing : Obligations.NopChangesNothing := fun _ => rfl

/-- Settles O15: each way of START is one record update of the cleared session. -/
theorem startEffect : Obligations.StartEffect := by
  intro s hst
  have hstart := cmdStart_idle (State.isIdle_iff.2 hst)
  exact congrArg Host.Outcome.next (hstart.trans (if_congr ConfigRegs.illegal_iff rfl rfl))

/-- Settles O16: ABORT has no guard, TRKCLR is accepted in the idle states. -/
theorem abortAndTrkclrEffect : Obligations.AbortAndTrkclrEffect :=
  ⟨fun _ => rfl, fun _ hst => congrArg Host.Outcome.next (cmdTrkclr_idle (State.isIdle_iff.2 hst))⟩

/-- Settles O17: the two ways out of `D_DELIVER`. -/
theorem nextEffect : Obligations.NextEffect := by
  intro s hst
  exact congrArg Host.Outcome.next ((cmdNext_deliver hst).trans (if_congr trackEnds_iff rfl rfl))

/-- Settles O19: every refusal is `State.refuse`, for a command by its guard, for a reserved `op` by the decoder's rejection. -/
theorem refusedCommand : Obligations.RefusedCommand := by
  intro s
  refine ⟨fun hidle hdone herror => ?_, fun hst => congrArg Host.Outcome.next (cmdNext_refused hst),
    fun addr data ha hop => ?_⟩
  · have hbusy := State.isIdle_eq_false hidle hdone herror
    exact ⟨congrArg Host.Outcome.next (cmdStart_refused hbusy), congrArg Host.Outcome.next (cmdTrkclr_refused hbusy),
      fun alg => congrArg Host.Outcome.next (cmdCkinit_refused alg hbusy),
      fun b => congrArg Host.Outcome.next (cmdCkbyte_refused b hbusy)⟩
  · rw [exec_csrwr_cmd ha, commandWrite_eq, decodeCommand_reserved hop]
    rfl

/-- Settles O25: the write and the decoder read the word alike. -/
theorem commandWriteIsTheCommand : Obligations.CommandWriteIsTheCommand := by
  intro s addr v i ha hv
  rw [exec_csrwr_cmd ha, commandWrite_eq, hv]

/-- Settles O26: the accepted INDEX, its saturating increment read as numbers. -/
theorem indexEffect : Obligations.IndexEffect := by
  intro s hready
  rw [exec_index_of_ready hready, satInc_eq_ofNat]
  rfl

/-- Settles O27: `POS` is counted for the period and not for the reserved token. -/
theorem reservedTokenAndZeroPeriod : Obligations.ReservedTokenAndZeroPeriod :=
  fun _ hready => ⟨exec_rsv_of_ready hready, exec_zeroPeriod_of_ready hready⟩

/-- Settles O28: one rule for the pilot, the trailer, the rest of the tape, the search for a sector and its data. -/
theorem eosEffect : Obligations.EosEffect := by
  intro s
  refine ⟨fun hst => ?pilot, fun hst => ?trailer, fun ht hpilot htrailer => ?tape, fun hst => ?search, fun hst => ?data⟩
  case pilot => rw [exec_eos_of_ready (State.ready_of_st hst rfl), eosByState, hst]
  case trailer => rw [exec_eos_of_ready (State.ready_of_st hst rfl), eosByState, hst]; rfl
  case tape => rw [exec_eos_of_ready (State.ready_of_isTape ht), eosByState_tape ht hpilot htrailer]
  case search => exact exec_eos_search hst
  case data => rw [exec_eos_data hst, diskEosData_eq rfl]; rfl

end Sys2Proof.Machine

namespace Sys2Proof.Machine

/-! # Exceptions (60_exceptions.md) -/

/-! ## The numeric codes, taking an error, reporting an event -/

/-- Settles O4: the tables evaluated. -/
theorem numericCodes : Obligations.NumericCodes := by
  refine ⟨?fatal, ?nonFatal, ?ctl, ?phase, ?flag⟩
  all_goals decide

/-- Settles O11: the mask of `EVT.ERR` is 0x002. -/
theorem terminalErrorEntry : Obligations.TerminalErrorEntry := fun _ _ _ => rfl

theorem Flag.countsBad_iff {f : Flag} : f.countsBad = true ↔ f = .hdrbad ∨ f = .databad := by
  simp [Flag.countsBad]

/-- `NBAD` after an event, its saturating increment read as numbers (60_exceptions.md R290). -/
theorem nonFatal_nbad_eq (s : State) (e : NonFatal) (pos : Word) (f : Flag) : (s.nonFatal e pos f).nbad =
    if f = .hdrbad ∨ f = .databad then BitVec.ofNat 8 (min (s.nbad.toNat + 1) 255) else s.nbad :=
  if_congr Flag.countsBad_iff (satInc_eq_ofNat s.nbad) rfl

/-- Settles O12: `NBAD` is the one field whose value is not plainly the one written. -/
theorem nonFatalEventEntry : Obligations.NonFatalEventEntry := by
  intro s e pos f
  rw [← nonFatal_nbad_eq s e pos f]
  rfl

/-! ## The output pins -/

/-- A flag reaches `irq` where it is set and enabled (60_exceptions.md R296). -/
theorem State.irq_iff {s : State} :
    s.irq = true ↔ ∃ k : Fin 12, s.evt.getLsbD k.val = true ∧ s.ien.getLsbD k.val = true := by
  have hzero : s.evt &&& s.ien = 0 ↔ ∀ k : Fin 12, (s.evt.getLsbD k.val && s.ien.getLsbD k.val) = false := by
    constructor
    · intro h k
      rw [← BitVec.getLsbD_and, h]
      exact BitVec.getLsbD_zero
    · intro h
      refine BitVec.eq_of_getLsbD_eq fun k hk => ?_
      rw [BitVec.getLsbD_and, h ⟨k, hk⟩]
      exact BitVec.getLsbD_zero.symm
  rw [State.irq, bne_iff_ne, ne_eq, hzero]
  simp

/-- `s_ready` is `READY` in a cycle without reset and bus access (10_state.md R21; 70_reset_and_hazards.md R315). -/
theorem State.sReady_iff {s : State} {c : PinCycle} :
    s.sReady c = true ↔ c.rst = false ∧ c.bWe = false ∧ c.bRe = false ∧ s.ready = true := by
  simp [State.sReady]
  tauto

/-- In the cycle after a read `b_rdata` carries the data of that read (10_state.md R21). -/
theorem State.bRdata_of_read {s : State} {c : PinCycle} (hv : s.rdValid = true) (hrst : c.rst = false) :
    s.bRdata c = s.rdata := by
  simp [State.bRdata, hv, hrst]

/-- Settles O13: the read value is latched from the state before the side effect. -/
theorem outputPins : Obligations.OutputPins := by
  intro s c
  have hready : s.sReady c = true ↔ _ := State.sReady_iff
  rw [State.ready_iff] at hready
  exact ⟨State.irq_iff, hready, fun addr hrst => ⟨_, rfl, State.bRdata_of_read rfl hrst⟩⟩

/-! ## A PERIOD that ends in ERROR -/

section
variable {s t : State} {p : Half} {b : Byte} {idx : Word}

/-! ### Rules that never end in ERROR -/

theorem findPilot_noError (hs : s.st ≠ .error) : (findPilot p s).st ≠ .error := by
  unfold findPilot pilotAccumulate
  split_ifs
  exacts [hs, nofun, hs, hs, hs]

theorem seekMarker_noError (hs : s.st ≠ .error) (h : seekMarker p s = .next t) : t.st ≠ .error := by
  rcases seekMarker_next h with ⟨_, rfl⟩ | ⟨_, rfl⟩ | ⟨_, rfl⟩
  · unfold seekLead; split_ifs <;> exact hs
  · unfold seekSync1; split <;> exact hs
  · unfold seekSync0; split; exacts [nofun, hs]

theorem trailerMarker_noError (hs : s.st ≠ .error) (h : trailerMarker p s = .next t) : t.st ≠ .error := by
  rcases trailerMarker_next h with ⟨_, rfl⟩ | ⟨_, rfl⟩ | ⟨_, rfl⟩
  · unfold trailerLead; split <;> exact hs
  · exact hs
  · nofun

theorem deliverData_noError (hs : s.st ≠ .error) (h : deliverData b idx s = .next t) : t.st ≠ .error := by
  rw [deliverData_next] at h
  obtain rfl := Host.Outcome.next.inj h
  split
  exacts [nofun, hs]

theorem deliverChecksum_noError (hs : s.st ≠ .error) (h : deliverChecksum b idx s = .next t) : t.st ≠ .error := by
  dsimp only [deliverChecksum] at h
  split at h <;> obtain rfl := Host.Outcome.next.inj h
  exacts [hs, nofun]

theorem deliverBlockHeader_noError (hs : s.st ≠ .error) (h : deliverBlockHeader b idx s = .next t) : t.st ≠ .error := by
  obtain ⟨_, ⟨_, hdone⟩ | ⟨_, rfl⟩⟩ := deliverBlockHeader_next h
  · rcases blockHeaderDone_next hdone with ⟨_, rfl⟩ | ⟨_, _, ⟨_, rfl⟩ | ⟨_, rfl⟩⟩ <;> nofun
  · exact hs

theorem deliverBlockBody_noError (hs : s.st ≠ .error) (h : deliverBlockBody b idx s = .next t) : t.st ≠ .error := by
  obtain ⟨_, rfl⟩ := deliverBlockBody_next h
  split
  exacts [nofun, hs]

theorem deliverBlockChecksum_noError (hs : s.st ≠ .error) (h : deliverBlockChecksum b idx s = .next t) :
    t.st ≠ .error := by
  rcases deliverBlockChecksum_next h with ⟨_, rfl⟩ | ⟨_, u, rfl, ⟨_, hacc⟩ | ⟨_, rfl⟩⟩
  · exact hs
  · obtain ⟨_, v, rfl, ⟨_, rfl⟩ | ⟨_, rfl⟩⟩ := blockAccepted_next hacc <;> nofun
  · nofun

theorem findHeader_noError (hs : s.st ≠ .error) : (findHeader p s).st ≠ .error := by
  dsimp only [findHeader]
  split
  exacts [nofun, hs]

theorem findData_noError (hs : s.st ≠ .error) : (findData p idx s).st ≠ .error := by
  dsimp only [findData]
  split_ifs
  exacts [nofun, nofun, hs]

theorem headerSizeStep_noError : (headerSizeStep idx s).st ≠ .error := by
  unfold headerSizeStep
  split <;> nofun

theorem deliverSectorHeader_noError (hs : s.st ≠ .error) : (deliverSectorHeader b idx s).st ≠ .error := by
  obtain ⟨c, _, hfield⟩ := storeSectorField_eq s.ses.byteidx.toNat b s
  dsimp only [deliverSectorHeader, headerCrcStep]
  rw [hfield]
  split_ifs
  exacts [nofun, hs, hs, headerSizeStep_noError, headerSizeStep_noError, nofun]

theorem dataCrcDone_noError : (dataCrcDone b idx s).st ≠ .error := by
  rw [dataCrcDone_eq rfl]
  split_ifs <;> nofun

theorem deliverSectorData_noError (hs : s.st ≠ .error) : (deliverSectorData b idx s).st ≠ .error := by
  dsimp only [deliverSectorData, dataMark]
  split_ifs
  exacts [nofun, hs, hs, hs, dataCrcDone_noError]

theorem dataPeriodBad_noError : (dataPeriodBad idx s).st ≠ .error := by
  dsimp only [dataPeriodBad]
  split_ifs <;> nofun

theorem diskBytePeriod_noError {bad : Word → State → State} {d : Byte → Word → State → State}
    (hs : s.st ≠ .error) (hbad : (bad idx s).st ≠ .error) (hd : ∀ b u, u.st ≠ .error → (d b idx u).st ≠ .error) :
    (diskBytePeriod bad d p idx s).st ≠ .error := by
  unfold diskBytePeriod
  split
  · exact hbad
  · exact pushRaw_keeps (P := fun u => u.st ≠ .error) (fun _ _ hu _ => hu) (fun _ _ hu _ => hd _ _ hu) _ s hs

theorem bodyMarkerDone_noError : (bodyMarkerDone s).st ≠ .error := by
  show (if s.ses.rcd.length = 0 then Ctl.tChecksum else .tReadData) ≠ .error
  split <;> nofun

/-! ### Rules that may take a terminal error -/

/-- `E_H7GEOM`: the check comes after the header was latched, so that the next state is no bare `raiseFatal` of the one before
(60_exceptions.md R284, R292); no event is reported on the way. -/
structure GeometryError (s t : State) : Prop where
  st : s.st = .tReadHdr
  errcode : t.ses.err.errcode = 13
  nfcode : t.ses.err.nfcode = s.ses.err.nfcode
  nfpos : t.ses.err.nfpos = s.ses.err.nfpos
  nbad : t.nbad = s.nbad

/-- If a rule goes from `s` to `t` in ERROR, then taking one terminal error is all it did, `E_H7GEOM` aside (60_exceptions.md
R284). -/
def PreciseError (idx : Word) (s t : State) : Prop :=
  t.st = .error → (∃ e : Fatal, e ≠ .h7geom ∧ t = s.raiseFatal e idx) ∨ GeometryError s t

theorem PreciseError.fatal {e : Fatal} (he : e ≠ .h7geom) : PreciseError idx s (s.raiseFatal e idx) :=
  fun _ => .inl ⟨e, he, rfl⟩

theorem PreciseError.running (h : t.st ≠ .error) : PreciseError idx s t := fun herror => absurd herror h

theorem pilotSync1_precise : PreciseError idx s (pilotSync1 p idx s) := by
  unfold pilotSync1
  split_ifs
  exacts [.fatal nofun, .fatal nofun, .running nofun]

theorem pilotSync0_precise : PreciseError idx s (pilotSync0 p idx s) := by
  unfold pilotSync0
  split_ifs
  exacts [.fatal nofun, .running nofun]

theorem strictMarker_precise {done : State → State} (hs : s.st ≠ .error) (hdone : (done s).st ≠ .error) :
    PreciseError idx s (strictMarker done p idx s) := by
  unfold strictMarker
  split
  · unfold strictLead; split_ifs; exacts [.fatal nofun, .running hs]
  · unfold strictBody; split; exacts [.fatal nofun, .running hs]
  · unfold strictFinal; split_ifs; exacts [.fatal nofun, .running hs]
  · unfold strictSync1; split_ifs; exacts [.fatal nofun, .fatal nofun, .running hs]
  · unfold strictSync0; split_ifs; exacts [.fatal nofun, .running hdone]

/-- The geometry check is what ends a HELP7 header in ERROR (44_framing_tape.md R207). -/
theorem help7Detect_error (hst : s.st = .tReadHdr) (herror : (help7Detect idx s).st = .error) :
    GeometryError s (help7Detect idx s) := by
  dsimp only [help7Detect] at herror ⊢
  split at herror
  · rename_i hnb
    rw [if_pos hnb]
    exact ⟨hst, rfl, rfl, rfl, rfl⟩
  · cases herror

theorem headerDone_error (hst : s.st = .tReadHdr) (herror : (headerDone idx s).st = .error) :
    GeometryError s (headerDone idx s) := by
  have hlatched : (latchHeader s).st = .tReadHdr := hst
  dsimp only [headerDone] at herror ⊢
  split at herror
  · rename_i h7
    obtain ⟨_, hcode, hnfcode, hnfpos, hnbad⟩ := help7Detect_error hlatched herror
    rw [if_pos h7]
    exact ⟨hst, hcode, hnfcode, hnfpos, hnbad⟩
  · cases herror

theorem deliverHeader_error (hst : s.st = .tReadHdr) (h : deliverHeader b idx s = .next t) (herror : t.st = .error) :
    GeometryError s t := by
  have hstored : (storeHeaderByte b s).st = .tReadHdr := hst
  obtain ⟨_, ⟨_, rfl⟩ | ⟨_, rfl⟩⟩ := deliverHeader_next h
  · obtain ⟨_, hcode, hnfcode, hnfpos, hnbad⟩ := headerDone_error hstored herror
    exact ⟨hst, hcode, hnfcode, hnfpos, hnbad⟩
  · cases hst.symm.trans herror

/-- A period of the byte states of a file: the field's violation is a terminal error (42_demod.md R162). -/
theorem filePeriod_precise {d : Byte → Word → State → Res} (hs : s.st ≠ .error)
    (hd : ∀ c x, d c idx { s with ses.bits := x } = .next t → PreciseError idx s t)
    (h : tapeBytePeriod fileViolation d p idx s = .next t) : PreciseError idx s t := by
  unfold tapeBytePeriod at h
  split at h
  · rcases tapeSyncPeriod_next h with ⟨_, rfl⟩ | ⟨_, _, hbyte⟩ | ⟨_, _, rfl⟩
    exacts [.fatal nofun, hd _ _ hbyte, .running hs]
  · rw [tapeDataPeriod_next] at h
    obtain rfl := Host.Outcome.next.inj h
    split
    exacts [.fatal nofun, .running hs]

theorem help7Violation_noError (e : Fatal) : (help7Violation e idx s).st ≠ .error := nofun

/-- A period of the byte states of a HELP7 block: the field's violation abandons the block (42_demod.md R162). -/
theorem blockPeriod_noError {d : Byte → Word → State → Res} (hs : s.st ≠ .error)
    (hd : ∀ c u, u.st ≠ .error → d c idx u = .next t → t.st ≠ .error)
    (h : tapeBytePeriod help7Violation d p idx s = .next t) : t.st ≠ .error :=
  tapeBytePeriod_gives (Q := (·.st ≠ .error)) help7Violation_noError (fun c x => hd c { s with ses.bits := x } hs)
    (fun _ => hs) h

/-! ### The period -/

/-- The MFM profile has no terminal error for a period (45_framing_disk.md R230, R251 (c)). -/
theorem diskPeriod_noError (hdisk : s.st.isDisk = true) (h : periodByState p idx s = .next t) : t.st ≠ .error := by
  have hs : s.st ≠ .error := by intro hst; rw [hst] at hdisk; cases hdisk
  cases hst : s.st <;> simp only [periodByState, hst] at h
  case dFindHdr => obtain rfl := Host.Outcome.next.inj h; exact findHeader_noError hs
  case dFindData => obtain rfl := Host.Outcome.next.inj h; exact findData_noError hs
  case dReadHdr =>
    obtain rfl := Host.Outcome.next.inj h
    exact diskBytePeriod_noError hs nofun fun _ _ => deliverSectorHeader_noError
  case dReadData =>
    obtain rfl := Host.Outcome.next.inj h
    exact diskBytePeriod_noError hs dataPeriodBad_noError fun _ _ => deliverSectorData_noError
  case dDeliver => obtain rfl := Host.Outcome.next.inj h; exact hs
  all_goals rw [hst] at hdisk; cases hdisk

/-- After the common step, a period that ends in ERROR is a terminal error and nothing else, `E_H7GEOM` aside. -/
theorem periodByState_precise (hs : s.st ≠ .error) (h : periodByState p idx s = .next t) : PreciseError idx s t := by
  have hbits (x : TapeBits) : ({ s with ses.bits := x } : State).st ≠ .error := hs
  cases hdisk : s.st.isDisk with
  | true => exact .running (diskPeriod_noError hdisk h)
  | false =>
    cases hst : s.st <;> simp only [periodByState, hst] at h
    case dFindHdr | dFindData | dReadHdr | dReadData | dDeliver => rw [hst] at hdisk; cases hdisk
    case error => exact absurd hst hs
    case tEndTrailer => exact .running (trailerMarker_noError hs h)
    case h7Seek => exact .running (seekMarker_noError hs h)
    case tReadHdr =>
      refine filePeriod_precise hs (fun c x hbyte herror => ?_) h
      obtain ⟨_, hcode, hnfcode, hnfpos, hnbad⟩ := deliverHeader_error (s := { s with ses.bits := x }) hst hbyte herror
      exact .inr ⟨hst, hcode, hnfcode, hnfpos, hnbad⟩
    case tReadData => exact filePeriod_precise hs (fun _ x hbyte => .running (deliverData_noError (hbits x) hbyte)) h
    case tChecksum => exact filePeriod_precise hs (fun _ x hbyte => .running (deliverChecksum_noError (hbits x) hbyte)) h
    case h7ReadBhdr => exact .running (blockPeriod_noError hs (fun _ _ => deliverBlockHeader_noError) h)
    case h7ReadBody => exact .running (blockPeriod_noError hs (fun _ _ => deliverBlockBody_noError) h)
    case h7Bcksum => exact .running (blockPeriod_noError hs (fun _ _ => deliverBlockChecksum_noError) h)
    all_goals obtain rfl := Host.Outcome.next.inj h
    case idle | done => exact .running hs
    case tFindPilot => exact .running (findPilot_noError hs)
    case tPilotFound => exact pilotSync1_precise
    case tPilotFound2 => exact pilotSync0_precise
    case tHdrMarker => exact strictMarker_precise hs nofun
    case tBodyMarker => exact strictMarker_precise hs bodyMarkerDone_noError

/-- An accepted period that ends in ERROR is a terminal error at the `POS` before it and nothing else, `E_H7GEOM` aside. -/
theorem exec_period_precise (hr : s.ready = true) (h : exec (.period p) s = .next t) :
    PreciseError s.ses.pos s.countPeriod t := by
  have hs : s.countPeriod.st ≠ .error := by
    obtain ⟨_, _, hne, _⟩ := State.ready_iff.1 hr
    exact hne
  by_cases hp : p = 0
  · rw [hp, exec_zeroPeriod_of_ready hr] at h
    obtain rfl := Host.Outcome.next.inj h
    exact .fatal nofun
  · rw [exec_period_of_ready hr hp] at h
    exact periodByState_precise hs h

/-- In the MFM profile only the zero period ends in ERROR (45_framing_disk.md R230). -/
theorem exec_period_disk_error (hr : s.ready = true) (hdisk : s.st.isDisk = true) (h : exec (.period p) s = .next t)
    (herror : t.st = .error) : p = 0 := by
  by_contra hp
  rw [exec_period_of_ready hr hp] at h
  exact diskPeriod_noError (s := s.countPeriod) hdisk h herror

theorem Fatal.code_eq_13_iff {e : Fatal} : e.code = 13 ↔ e = .h7geom := by
  cases e <;> decide

end

/-- Settles O52: the geometry check aside, a period that ends in ERROR is one `raiseFatal` of the counted state. -/
theorem terminalErrorsArePrecise : Obligations.TerminalErrorsArePrecise := by
  intro s t p hr h herror
  have hdisk (hd : s.st.isDisk = true) : p = 0 := exec_period_disk_error hr hd h herror
  rcases exec_period_precise hr h herror with ⟨e, he, rfl⟩ | ⟨hst, hcode, hnfcode, hnfpos, hnbad⟩
  · have hcode : e.code ≠ 13 := mt Fatal.code_eq_13_iff.1 he
    exact ⟨fun _ => ⟨e, rfl⟩, fun h13 => absurd h13 hcode, hdisk, rfl, rfl, rfl⟩
  · exact ⟨fun hne => absurd hcode hne, fun _ => hst, hdisk, hnfcode, hnfpos, hnbad⟩

/-! ## The interrupt registers and the engine -/

/-- The state with other values of `IEN` and `EVT`. -/
def State.setIrq (s : State) (n e : BitVec 12) : State := { s with ien := n, evt := e }

/-- The states differ in `IEN` and `EVT` only. -/
def SameEngine (s t : State) : Prop := s.setIrq 0 0 = t.setIrq 0 0

/-- Where the first answer is a next state, the second is one with the same engine. -/
def SameAnswer (r r' : Res) : Prop := ∀ t, r = .next t → ∃ t', r' = .next t' ∧ SameEngine t t'

/-- What a rule does to the engine does not depend on `IEN` and `EVT` (60_exceptions.md R297). -/
def IrqBlind (f : State → State) : Prop := ∀ s n e, SameEngine (f s) (f (s.setIrq n e))

/-- `IrqBlind` for a rule that may stop. -/
def IrqBlindRes (f : State → Res) : Prop := ∀ s n e, SameAnswer (f s) (f (s.setIrq n e))

section
variable {s t : State} {p : Half} {b : Byte} {idx : Word}

@[simp] theorem State.setIrq_st (s : State) (n e : BitVec 12) : (s.setIrq n e).st = s.st := rfl
@[simp] theorem State.setIrq_ses (s : State) (n e : BitVec 12) : (s.setIrq n e).ses = s.ses := rfl

/-- States with the same engine are one state with two settings of the interrupt registers. -/
theorem SameEngine.setIrq_eq (h : SameEngine s t) : s.setIrq t.ien t.evt = t := by
  have hset : s.setIrq 0 0 = t.setIrq 0 0 := h
  calc s.setIrq t.ien t.evt
      = (s.setIrq 0 0).setIrq t.ien t.evt := rfl
    _ = (t.setIrq 0 0).setIrq t.ien t.evt := by rw [hset]
    _ = t := rfl

theorem IrqBlind.congr {f : State → State} (hf : IrqBlind f) (h : SameEngine s t) : SameEngine (f s) (f t) := by
  rw [← h.setIrq_eq]
  exact hf _ _ _

theorem IrqBlindRes.congr {f : State → Res} (hf : IrqBlindRes f) (h : SameEngine s t) : SameAnswer (f s) (f t) := by
  rw [← h.setIrq_eq]
  exact hf _ _ _

theorem SameEngine.st_eq (h : SameEngine s t) : s.st = t.st := by
  have hset : s.setIrq 0 0 = t.setIrq 0 0 := h
  rw [← State.setIrq_st s 0 0, hset, State.setIrq_st]

/-- Two runs of a rule that take the same branch. -/
theorem SameEngine.ite_iff {c c' : Prop} {d : Decidable c} {d' : Decidable c'} {s' t' : State} (hc : c ↔ c')
    (h : SameEngine s s') (h' : SameEngine t t') : SameEngine (@ite _ c d s t) (@ite _ c' d' s' t') := by
  by_cases hcase : c
  · rw [if_pos hcase, if_pos (hc.1 hcase)]; exact h
  · rw [if_neg hcase, if_neg (mt hc.2 hcase)]; exact h'

/-- Two runs of a rule whose condition is the same term in both states. -/
theorem SameEngine.ite {c : Prop} {d d' : Decidable c} {s' t' : State} (h : SameEngine s s') (h' : SameEngine t t') :
    SameEngine (@ite _ c d s t) (@ite _ c d' s' t') :=
  .ite_iff Iff.rfl h h'

theorem SameAnswer.ite {c : Prop} {d d' : Decidable c} {q q' r r' : Res} (h : SameAnswer q q') (h' : SameAnswer r r') :
    SameAnswer (@ite _ c d q r) (@ite _ c d' q' r') := by
  split <;> assumption

theorem SameAnswer.next (h : SameEngine s t) : SameAnswer (.next s) (.next t) := by
  intro u hu
  obtain rfl := Host.Outcome.next.inj hu
  exact ⟨t, rfl, h⟩

theorem SameAnswer.fault {r : Fault} {r' : Res} : SameAnswer (.fault r) r' := fun _ h => nomatch h

/-! ### Rules of the tape -/

theorem irqBlind_findPilot : IrqBlind (findPilot p) :=
  fun _ _ _ => .ite rfl (.ite rfl (.ite (.ite rfl rfl) rfl))

theorem irqBlind_pilotSync1 : IrqBlind (pilotSync1 p idx) := fun _ _ _ => .ite rfl (.ite rfl rfl)

theorem irqBlind_pilotSync0 : IrqBlind (pilotSync0 p idx) := fun _ _ _ => .ite rfl rfl

/-- Every branch is of one term in both runs; only `marker_done` is a rule of its own. -/
theorem irqBlind_strictMarker {done : State → State} (hdone : IrqBlind done) : IrqBlind (strictMarker done p idx) := by
  intro s n e
  cases hms : s.ses.mark.ms <;> simp only [strictMarker, State.setIrq_ses, hms]
  case lead | body | final => exact .ite rfl rfl
  case sync1 => exact .ite rfl (.ite rfl rfl)
  case sync0 => exact .ite rfl (hdone s n e)

theorem irqBlind_hdrMarkerDone : IrqBlind hdrMarkerDone := fun _ _ _ => rfl

theorem irqBlind_bodyMarkerDone : IrqBlind bodyMarkerDone := fun _ _ _ => rfl

theorem irqBlind_seekMarker : IrqBlindRes (seekMarker p) := by
  intro s n e
  cases hms : s.ses.mark.ms <;> simp only [seekMarker, State.setIrq_ses, hms]
  case lead => exact .next (.ite rfl (.ite rfl rfl))
  case sync1 | sync0 => exact .next (.ite rfl rfl)
  case body | final => exact .fault

theorem irqBlind_trailerMarker : IrqBlindRes (trailerMarker p) := by
  intro s n e
  cases hms : s.ses.mark.ms <;> simp only [trailerMarker, State.setIrq_ses, hms]
  case lead => exact .next (.ite rfl rfl)
  case sync1 | sync0 => exact .next rfl
  case body | final => exact .fault

theorem irqBlind_help7Detect : IrqBlind (help7Detect idx) := fun _ _ _ => .ite rfl rfl

theorem irqBlind_headerDone : IrqBlind (headerDone idx) := fun _ _ _ => .ite (irqBlind_help7Detect _ _ _) rfl

theorem irqBlind_deliverHeader : IrqBlindRes (deliverHeader b idx) :=
  fun _ _ _ => .ite .fault (.ite (.next (irqBlind_headerDone _ _ _)) (.next rfl))

theorem irqBlind_deliverData : IrqBlindRes (deliverData b idx) := fun _ _ _ => .ite (.next rfl) (.next rfl)

theorem irqBlind_deliverChecksum : IrqBlindRes (deliverChecksum b idx) := fun _ _ _ => .ite (.next rfl) (.next rfl)

theorem irqBlind_blockHeaderDone : IrqBlindRes (blockHeaderDone idx) :=
  fun _ _ _ => .ite (.next rfl) (.ite .fault (.ite (.next rfl) (.next rfl)))

theorem irqBlind_deliverBlockHeader : IrqBlindRes (deliverBlockHeader b idx) :=
  fun _ _ _ => .ite .fault (.ite (irqBlind_blockHeaderDone _ _ _) (.next rfl))

theorem irqBlind_deliverBlockBody : IrqBlindRes (deliverBlockBody b idx) :=
  fun _ _ _ => .ite .fault (.ite (.next rfl) (.next rfl))

theorem irqBlind_blockAccepted : IrqBlindRes blockAccepted := fun _ _ _ => .ite .fault (.ite (.next rfl) (.next rfl))

theorem irqBlind_deliverBlockChecksum : IrqBlindRes (deliverBlockChecksum b idx) :=
  fun _ _ _ => .ite (.next rfl) (.ite (irqBlind_blockAccepted _ _ _) (.next rfl))

theorem irqBlind_tapeBytePeriod {v : Fatal → Word → State → State} {d : Byte → Word → State → Res}
    (hv : ∀ e, IrqBlind (v e idx)) (hd : ∀ b, IrqBlindRes (d b idx)) : IrqBlindRes (tapeBytePeriod v d p idx) := by
  intro s n e
  have hsync : SameAnswer (tapeSyncPeriod v d p idx s) (tapeSyncPeriod v d p idx (s.setIrq n e)) :=
    .ite (.next (hv _ s n e)) (.ite (hd _ _ n e) (.next rfl))
  have hdata : SameAnswer (tapeDataPeriod v p idx s) (tapeDataPeriod v p idx (s.setIrq n e)) :=
    .ite (.next (hv _ s n e)) (.next rfl)
  exact .ite hsync hdata

/-! ### Rules of the disk -/

theorem irqBlind_headerPeriodBad : IrqBlind (headerPeriodBad idx) := fun _ _ _ => rfl

theorem irqBlind_findHeader : IrqBlind (findHeader p) := fun _ _ _ => .ite rfl rfl

theorem irqBlind_findData : IrqBlind (findData p idx) := fun _ _ _ => .ite rfl (.ite rfl rfl)

theorem irqBlind_headerSizeStep : IrqBlind (headerSizeStep idx) := fun _ _ _ => .ite rfl rfl

theorem irqBlind_headerCrcStep : IrqBlind (headerCrcStep b idx) :=
  fun _ _ _ => .ite (irqBlind_headerSizeStep _ _ _) (.ite (irqBlind_headerSizeStep _ _ _) rfl)

theorem irqBlind_storeSectorField (i : Nat) : IrqBlind (storeSectorField i b) := by
  intro s n e
  unfold storeSectorField
  split <;> rfl

theorem irqBlind_deliverSectorHeader : IrqBlind (deliverSectorHeader b idx) := by
  intro s n e
  have hcount : IrqBlind fun u => { u with ck := crcUpd s.ck b, ses.byteidx := s.ses.byteidx + 1 } := fun _ _ _ => rfl
  have hfield := irqBlind_storeSectorField (b := b) s.ses.byteidx.toNat s n e
  exact .ite rfl (.ite (hcount.congr hfield) (.ite rfl (irqBlind_headerCrcStep _ _ _)))

theorem irqBlind_dataCrcDone : IrqBlind (dataCrcDone b idx) := by
  intro s n e
  rw [dataCrcDone_eq (recordSector_eq_setSectOk _), dataCrcDone_eq (recordSector_eq_setSectOk _)]
  exact .ite (.ite rfl rfl) rfl

theorem irqBlind_deliverSectorData : IrqBlind (deliverSectorData b idx) :=
  fun _ _ _ => .ite (.ite rfl rfl) (.ite rfl (.ite rfl (irqBlind_dataCrcDone _ _ _)))

theorem irqBlind_dataPeriodBad : IrqBlind (dataPeriodBad idx) := fun _ _ _ => .ite rfl rfl

/-- The push compares `ST` before and after a byte to see whether it goes on: the two runs agree on both. -/
theorem irqBlind_pushRaw {d : Byte → Word → State → State} (hd : ∀ b, IrqBlind (d b idx)) (rs : List Bool) :
    IrqBlind (pushRaw d idx rs) := by
  induction rs with
  | nil => exact fun _ _ _ => rfl
  | cons r rs ih =>
    intro s n e
    have hbyte (c : Byte) (x : RawBits) : SameEngine (d c idx { s with ses.rawb := x })
        (d c idx { s.setIrq n e with ses.rawb := x }) := hd c { s with ses.rawb := x } n e
    exact .ite (.ite_iff (Eq.congr_left (hbyte _ _).st_eq) (ih.congr (hbyte _ _)) (hbyte _ _)) (ih _ n e)

theorem irqBlind_diskBytePeriod {bad : Word → State → State} {d : Byte → Word → State → State}
    (hbad : IrqBlind (bad idx)) (hd : ∀ b, IrqBlind (d b idx)) : IrqBlind (diskBytePeriod bad d p idx) := by
  intro s n e
  cases hclass : unitClass s.ses.thr p <;> simp only [diskBytePeriod, State.setIrq_ses, hclass]
  case none => exact hbad s n e
  case some c => exact irqBlind_pushRaw hd _ s n e

/-! ### The tokens -/

theorem irqBlind_periodByState : IrqBlindRes (periodByState p idx) := by
  intro s n e
  have hfile (f : Fatal) : IrqBlind (fileViolation f idx) := fun _ _ _ => rfl
  have hblock (f : Fatal) : IrqBlind (help7Violation f idx) := fun _ _ _ => rfl
  cases hst : s.st <;> simp only [periodByState, State.setIrq_st, hst]
  case idle | done | error | dDeliver => exact .next rfl
  case tFindPilot => exact .next (irqBlind_findPilot s n e)
  case tPilotFound => exact .next (irqBlind_pilotSync1 s n e)
  case tPilotFound2 => exact .next (irqBlind_pilotSync0 s n e)
  case tHdrMarker => exact .next (irqBlind_strictMarker irqBlind_hdrMarkerDone s n e)
  case tBodyMarker => exact .next (irqBlind_strictMarker irqBlind_bodyMarkerDone s n e)
  case tEndTrailer => exact irqBlind_trailerMarker s n e
  case h7Seek => exact irqBlind_seekMarker s n e
  case tReadHdr => exact irqBlind_tapeBytePeriod hfile (fun _ => irqBlind_deliverHeader) s n e
  case tReadData => exact irqBlind_tapeBytePeriod hfile (fun _ => irqBlind_deliverData) s n e
  case tChecksum => exact irqBlind_tapeBytePeriod hfile (fun _ => irqBlind_deliverChecksum) s n e
  case h7ReadBhdr => exact irqBlind_tapeBytePeriod hblock (fun _ => irqBlind_deliverBlockHeader) s n e
  case h7ReadBody => exact irqBlind_tapeBytePeriod hblock (fun _ => irqBlind_deliverBlockBody) s n e
  case h7Bcksum => exact irqBlind_tapeBytePeriod hblock (fun _ => irqBlind_deliverBlockChecksum) s n e
  case dFindHdr => exact .next (irqBlind_findHeader s n e)
  case dFindData => exact .next (irqBlind_findData s n e)
  case dReadHdr =>
    exact .next (irqBlind_diskBytePeriod irqBlind_headerPeriodBad (fun _ => irqBlind_deliverSectorHeader) s n e)
  case dReadData =>
    exact .next (irqBlind_diskBytePeriod irqBlind_dataPeriodBad (fun _ => irqBlind_deliverSectorData) s n e)

theorem irqBlind_execPeriod : IrqBlindRes (execPeriod p) :=
  fun _ _ _ => .ite (.next rfl) (.ite (.next rfl) (irqBlind_periodByState _ _ _))

theorem irqBlind_eosByState : IrqBlind eosByState := by
  intro s n e
  cases hst : s.st <;> simp only [eosByState, State.setIrq_st, hst]
  case dFindHdr | dReadHdr | dFindData => exact .ite rfl rfl
  case dReadData => exact .ite rfl rfl
  all_goals rfl

theorem irqBlind_execEos : IrqBlindRes execEos := fun _ _ _ => .next (.ite (irqBlind_eosByState _ _ _) rfl)

theorem irqBlind_execIndex : IrqBlindRes execIndex := fun _ _ _ => .next (.ite rfl rfl)

theorem irqBlind_execRsv : IrqBlindRes execRsv := fun _ _ _ => .next (.ite rfl rfl)

/-! ### Commands and register writes -/

theorem irqBlind_cmdStart : IrqBlind cmdStart := fun _ _ _ => .ite rfl (.ite rfl (.ite rfl rfl))

theorem irqBlind_cmdNext : IrqBlind cmdNext := fun _ _ _ => .ite rfl (.ite rfl rfl)

theorem irqBlind_cmdTrkclr : IrqBlind cmdTrkclr := fun _ _ _ => .ite rfl rfl

theorem irqBlind_cmdCkinit (alg : Bool) : IrqBlind (cmdCkinit alg) := fun _ _ _ => .ite rfl rfl

theorem irqBlind_cmdCkbyte (b : Byte) : IrqBlind (cmdCkbyte b) := fun _ _ _ => .ite rfl rfl

theorem irqBlind_commandWrite (w : Word) : IrqBlind (commandWrite w) := by
  intro s n e
  unfold commandWrite
  split
  exacts [rfl, irqBlind_cmdStart s n e, rfl, irqBlind_cmdNext s n e, irqBlind_cmdTrkclr s n e,
    irqBlind_cmdCkinit _ s n e, irqBlind_cmdCkbyte _ s n e, rfl]

theorem irqBlind_lockedWrite (f : ConfigRegs → ConfigRegs) : IrqBlind (lockedWrite f) := fun _ _ _ => .ite rfl rfl

/-- A write to `IEN` or `EVT` itself reaches these two only. -/
theorem irqBlind_writeCsr (r : Csr) (v : Word) : IrqBlind (writeCsr r v) := by
  cases r
  case cmd => exact irqBlind_commandWrite v
  case cfg | coef | limit | h7cfg | expect => exact irqBlind_lockedWrite _
  all_goals exact fun _ _ _ => rfl

theorem irqBlind_writeAt (addr : Byte) (v : Word) : IrqBlind (writeAt addr v) := by
  intro s n e
  cases ha : csrAt addr <;> simp only [writeAt, ha]
  case none => rfl
  case some r => exact irqBlind_writeCsr r v s n e

/-- Every operation but a register read, whose data may be `IEN` or `EVT`. -/
theorem irqBlind_exec {i : Instr} (hi : ∀ addr, i ≠ .csrrd addr) : IrqBlindRes (exec i) := by
  intro s n e
  cases i with
  | period => exact irqBlind_execPeriod s n e
  | eos => exact irqBlind_execEos s n e
  | index => exact irqBlind_execIndex s n e
  | rsv => exact irqBlind_execRsv s n e
  | nop | abort => exact .next rfl
  | start => exact .next (irqBlind_cmdStart s n e)
  | next => exact .next (irqBlind_cmdNext s n e)
  | trkclr => exact .next (irqBlind_cmdTrkclr s n e)
  | ckinit alg => exact .next (irqBlind_cmdCkinit alg s n e)
  | ckbyte b => exact .next (irqBlind_cmdCkbyte b s n e)
  | csrrd addr => exact absurd rfl (hi addr)
  | csrwr addr v => exact .next (irqBlind_writeAt addr v s n e)

end

/-- Settles O58: in two states with the same engine every operation takes the same branches (`irqBlind_exec`). -/
theorem interruptDoesNotAffectDecoding : Obligations.InterruptDoesNotAffectDecoding := by
  intro i s₁ s₂ t₁ hi hsame h
  have hengine : SameEngine s₁ s₂ := hsame
  exact (irqBlind_exec hi).congr hengine t₁ h

end Sys2Proof.Machine

namespace Sys2Proof.Machine

/-! ## Reset -/

/-- Reset goes before a bus access and before a token (70_reset_and_hazards.md R315). -/
theorem step_of_rst {s : State} (hrst : s.cycle.rst = true) : step s = .next s.resetEdge := by
  have hpin : s.pinEvent = .reset := by simp [State.pinEvent, hrst]
  rw [step, hpin]

/-- Where no operation has written since reset, `BUF` holds free values (70_reset_and_hazards.md R317). -/
theorem State.bufRead_of_unwritten {s : State} (hbuf : s.buf = []) (a : Nat) : s.bufRead a = Config.bufInit s.epoch a := by
  simp [State.bufRead, hbuf]

/-- In a cycle that follows no read `b_rdata` is a free value (93_implementation_defined.md U15). -/
theorem State.bRdata_of_no_read {s : State} (hv : s.rdValid = false) (c : PinCycle) :
    s.bRdata c = Config.rdataFree s.tick := by
  simp [State.bRdata, hv]

theorem readAt_cfg_reset : readAt 0x0C State.reset = 0 :=
  (readAt_of_csrAt (r := .cfg) rfl).trans (by decide)

/-- The calibration coefficients after reset (10_state.md R54). -/
theorem readAt_coef_reset : readAt 0x10 State.reset = 0x04303018 :=
  (readAt_of_csrAt (r := .coef) rfl).trans (by decide)

/-- The pilot and search limits after reset (10_state.md R55). -/
theorem readAt_limit_reset : readAt 0x14 State.reset = 0x019000C8 :=
  (readAt_of_csrAt (r := .limit) rfl).trans (by decide)

theorem readAt_h7cfg_reset : readAt 0x18 State.reset = 0 :=
  (readAt_of_csrAt (r := .h7cfg) rfl).trans (by decide)

theorem readAt_expect_reset : readAt 0x1C State.reset = 0 :=
  (readAt_of_csrAt (r := .expect) rfl).trans (by decide)

/-- Settles O6: the reset edge is the first branch of a cycle, the stored fields are those of `State.reset`, and the configuration
is read back through the register map. -/
theorem resetValues : Obligations.ResetValues := by
  have hbuf (a : Nat) := State.bufRead_of_unwritten (s := State.reset) rfl a
  have hrdata (c : PinCycle) := State.bRdata_of_no_read (s := State.reset) rfl c
  refine ⟨fun s hrst => step_of_rst hrst, rfl, rfl, rfl, rfl, rfl, rfl, rfl, rfl, rfl, rfl, rfl, rfl, rfl, rfl, rfl, rfl,
    readAt_cfg_reset, readAt_coef_reset, readAt_limit_reset, readAt_h7cfg_reset, readAt_expect_reset, ?_⟩
  exact ⟨rfl, rfl, rfl, rfl, rfl, rfl, rfl, rfl, rfl, hbuf, rfl, hrdata⟩

/-- The idle machine with a zero session and no written byte. -/
theorem State.reset_inv : Inv State.reset :=
  Inv.enter (c := .idle) rfl (DataInv.of_zero State.reset_wf rfl) ⟨rfl, rfl, rfl, rfl⟩

/-- Settles O7: the reset state is idle with a zero session, and it has no HELP7 file to keep books of. -/
theorem resetInv : Obligations.ResetInv :=
  ⟨State.reset_inv, Help7Books.of_inactive rfl rfl⟩

end Sys2Proof.Machine
